-- ==== Sys2Proof/Word.lean ====
section
/-! DEFINITION. The words of the FL-716: bytes, sequences, counters, network times, and tables of a fixed size. -/

namespace Sys2Proof

/-- One byte on a line or a port. -/
abbrev Byte := BitVec 8

/-- A 16-bit frame sequence number (01, section 1.2); sums wrap modulo 65,536. -/
abbrev Seq := BitVec 16

/-- A 16-bit counter (00, section 6). -/
abbrev Counter := BitVec 16

/-- A network time in normal form: 32-bit seconds and ticks 0 to 9,999,999 (01, section 1.1, R1).
The type holds no pair outside the normal form. -/
structure NetTime where
  sec  : BitVec 32
  tick : Fin 10000000
  deriving DecidableEq, Repr

/-- A table of exactly `n` entries, numbered from 0. -/
structure Tab (n : Nat) (α : Type) where
  toList  : List α
  size_eq : toList.length = n
  deriving DecidableEq, Repr

namespace Tab

variable {n : Nat} {α β : Type}

/-- Entry `i`. -/
def get (t : Tab n α) (i : Fin n) : α := t.toList[i.val]'(by rw [t.size_eq]; exact i.isLt)

/-- The table with entry `i` replaced. -/
def set (t : Tab n α) (i : Fin n) (v : α) : Tab n α := ⟨t.toList.set i.val v, by simp [t.size_eq]⟩

/-- The table with entry `i` changed by `f`. -/
def modify (t : Tab n α) (i : Fin n) (f : α → α) : Tab n α := t.set i (f (t.get i))

/-- Every entry changed by `f`. -/
def map (t : Tab n α) (f : α → β) : Tab n β := ⟨t.toList.map f, by simp [t.size_eq]⟩

/-- The table whose every entry is `v`. -/
def const (n : Nat) (v : α) : Tab n α := ⟨List.replicate n v, by simp⟩

end Tab

/-- One item for each of two ports or two inputs. -/
structure Two (α : Type) where
  fst : α
  snd : α
  deriving DecidableEq, Repr

end Sys2Proof
end

