-- ==== Sys2Proof/Config.lean ====
section
/-! DEFINITION. The constants of the FL-716, and the free values the manual leaves open. -/

namespace Sys2Proof.Config

/-- Ticks in one second (00, section 6). -/
def ticksPerSecond : Nat := 10000000

/-- Ticks in the whole range of network time, 2^32 seconds (R1). -/
def timeRange : Nat := 42949672960000000

/-- Half of the range of network time, 2^31 seconds (R2). -/
def halfRange : Nat := 21474836480000000

/-- Oscillator cycles in one adjustment period (R12). -/
def periodCycles : Nat := 10000000

/-- Ticks in one millisecond (R167). -/
def ticksPerMs : Nat := 10000

/-- Packet places of advert memory (R131). -/
def poolPlaces : Nat := 8192

/-- Bytes of a service packet's payload (01, section 1.4). -/
def payloadBytes : Nat := 184

/-- FREE VALUE, DESIGN CHOICE (log 2). Which of several events due at one instant the idle step takes
first: the manual gives the outcome of either order and fixes none. Applied to `State.freeCount`; no body. -/
opaque freeOrder : Nat → Nat

/-- FREE VALUE, DESIGN CHOICE (log 3). The level of the exciter-ready line at a boundary that the idle step
takes by itself (R81 samples an input from outside). Applied to `State.freeCount`; no body. -/
opaque exciterReady : Nat → Bool

end Sys2Proof.Config
end

