-- ==== Sys2Proof/Syntax.lean ====
section
/-! DEFINITION. The commands of the FL-716: one constructor per row of spec/opcode_table.json, and the
formats their operands carry. -/

namespace Sys2Proof

/-- A management port. -/
inductive Port | a | b
  deriving DecidableEq, Repr

/-- A feed input, numbered after its feed line. -/
inductive InputNo | one | two
  deriving DecidableEq, Repr

/-- A service packet of 188 bytes (01, section 1.4), by its fields: byte 0; the unit-start flag, class and
label of bytes 1 and 2; the continuity count and low four bits of byte 3; the payload. -/
structure ServicePacket where
  sync       : Byte
  unitStart  : Bool
  cls        : BitVec 3
  label      : BitVec 12
  continuity : BitVec 4
  low        : BitVec 4
  payload    : List Byte
  deriving DecidableEq, Repr

/-- The commands: one constructor per row of the table, its mnemonic in the docstring. A command of a feed line or the
time-of-day line, and CORRUPT_MESSAGE, carries the bytes received on its line since the last such command, up to the one
that completes its event; bytes that complete nothing are kept by the receiver (R6, R8, R9; log 5). -/
inductive Instr
  /-- FULL_RESET (R14): power-on or the reset line. -/
  | fullReset
  /-- ADJUSTMENT_PERIOD_END (R13, R25). -/
  | adjustmentPeriodEnd
  /-- SECONDS_CHANGE (R30). -/
  | secondsChange
  /-- TIME_OF_DAY_MESSAGE (R8). -/
  | timeOfDayMessage (bytes : List Byte)
  /-- REFERENCE_PULSE (R15). -/
  | referencePulse
  /-- MISSING_PULSE_DEADLINE (R16). -/
  | missingPulseDeadline
  /-- HEADER_ACCEPTED (R6). -/
  | headerAccepted (input : InputNo) (bytes : List Byte)
  /-- FRAME_COMPLETION (R34): at the twentieth byte of a header that is not good, or at the last byte of the frame check. -/
  | frameCompletion (input : InputNo) (bytes : List Byte)
  /-- SILENCE_INTERVAL (R35). -/
  | silenceInterval (input : InputNo)
  /-- BOUNDARY (R65), with the level of the exciter-ready line (R81). -/
  | boundary (exciterReady : Bool)
  /-- REQUERY_TIMER_EXPIRY (R121), of an entry of a record. -/
  | requeryTimerExpiry (record : Fin 16) (entry : Fin 8)
  /-- PACKET_PRESENTATION (R85). -/
  | packetPresentation
  /-- MUTE_LINE_ASSERT (R88). -/
  | muteLineAssert
  /-- MESSAGE_SEND (R118). -/
  | messageSend
  /-- MESSAGE_SENT (R118). -/
  | messageSent
  /-- READY (R124): the message's fields; its last byte arrives. -/
  | ready (tag : Byte) (segment : BitVec 32) (count : BitVec 32)
  /-- UNKNOWN (R124). -/
  | unknown (tag : Byte) (segment : BitVec 32)
  /-- BURST (R125); its count field is the number of packets. -/
  | burst (tag : Byte) (breakId : BitVec 16) (segment : BitVec 32) (offset : BitVec 32) (packets : List ServicePacket)
  /-- WITHDRAW (R126). -/
  | withdraw (segment : BitVec 32)
  /-- CORRUPT_MESSAGE (R9): bytes that arrive on the incoming advert line, the last byte of a corrupt message last. -/
  | corruptMessage (bytes : List Byte)
  /-- REPLY_TIMEOUT (R127), of a request slot. -/
  | replyTimeout (slot : Fin 2)
  /-- STATUS_BYTE_FORMED (R11). -/
  | statusByteFormed (port : Port)
  /-- FRAME_ERROR (R10): the bytes between assertion and release of chip select. -/
  | frameError (port : Port) (bytes : List Byte)
  /-- UNKNOWN_COMMAND (R162). -/
  | unknownCommand (port : Port) (code : Byte) (args : List Byte)
  /-- NO_OPERATION (R163). -/
  | noOperation (port : Port) (args : List Byte)
  /-- READ_STATUS (R163). -/
  | readStatus (port : Port) (args : List Byte)
  /-- CLAIM_DIRECTION (R165). -/
  | claimDirection (port : Port) (args : List Byte)
  /-- RELEASE_DIRECTION (R166). -/
  | releaseDirection (port : Port) (args : List Byte)
  /-- REFUSE_CLAIM (R166). -/
  | refuseClaim (port : Port) (args : List Byte)
  /-- PRESENCE (R167). -/
  | presence (port : Port) (args : List Byte)
  /-- PRESENCE_MISSING (R167). -/
  | presenceMissing
  /-- WRITE_SETTING (R169). -/
  | writeSetting (port : Port) (args : List Byte)
  /-- READ_SETTING (R169). -/
  | readSetting (port : Port) (args : List Byte)
  /-- APPLY_STAGED (R170). -/
  | applyStaged (port : Port) (args : List Byte)
  /-- DISCARD_STAGED (R172). -/
  | discardStaged (port : Port) (args : List Byte)
  /-- START_EMISSION (R77). -/
  | startEmission (port : Port) (args : List Byte)
  /-- STOP_EMISSION (R78). -/
  | stopEmission (port : Port) (args : List Byte)
  /-- SET_MUTE (R79). -/
  | setMute (port : Port) (args : List Byte)
  /-- FORCE_PATH (R49). -/
  | forcePath (port : Port) (args : List Byte)
  /-- CREATE_BREAK (R101). -/
  | createBreak (port : Port) (args : List Byte)
  /-- AMEND_BREAK (R102). -/
  | amendBreak (port : Port) (args : List Byte)
  /-- CANCEL_BREAK (R103). -/
  | cancelBreak (port : Port) (args : List Byte)
  /-- RETIRE_BREAK (R105). -/
  | retireBreak (port : Port) (args : List Byte)
  /-- READ_BREAK (R115). -/
  | readBreak (port : Port) (args : List Byte)
  /-- LIST_BREAKS (R115). -/
  | listBreaks (port : Port) (args : List Byte)
  /-- READ_MONITOR (R161). -/
  | readMonitor (port : Port) (args : List Byte)
  /-- CLEAR_FAULTS (R159). -/
  | clearFaults (port : Port) (args : List Byte)
  /-- READ_TIMEBASE (R32). -/
  | readTimebase (port : Port) (args : List Byte)
  /-- SET_ALERT_ROUTING (R176). -/
  | setAlertRouting (port : Port) (args : List Byte)
  /-- SET_ALERT_MASK (R176). -/
  | setAlertMask (port : Port) (args : List Byte)
  /-- TAKE_ALERT (R175). -/
  | takeAlert (port : Port) (args : List Byte)
  /-- SET_ALERT_PRIORITY (R176). -/
  | setAlertPriority (port : Port) (args : List Byte)
  /-- RESTART_SITE (R177). -/
  | restartSite (port : Port) (args : List Byte)
  /-- ADJUSTMENT_POSITION (R12). -/
  | adjustmentPosition
  deriving DecidableEq, Repr

end Sys2Proof
end

