-- ==== Sys2Proof/Machine/State.lean ====
section
/-! DEFINITION. The state of the FL-716, its reasons to stop, and the state after a full reset. -/

namespace Sys2Proof.Machine

open Sys2Proof

/-! ### Site Timebase (02) -/

/-- State of the timebase (R13). -/
inductive TbState | free | acquiring | tracking | slewing | holdover | expired
  deriving DecidableEq, Repr

/-- Held message state of the time-of-day receiver (R8). -/
inductive TodState
  | none
  | accepted (label : BitVec 32)
  | invalid
  deriving DecidableEq, Repr

/-- The last labelled pulse (R15): its local time and its phase error. -/
structure LastPulse where
  time  : NetTime
  error : Int
  deriving DecidableEq, Repr

/-- Holdover seconds h and uncertainty U, present together (R13, R25). -/
structure Holdover where
  seconds     : BitVec 32
  uncertainty : BitVec 32
  deriving DecidableEq, Repr

/-- The items of the table under R13, with the progress of the current adjustment period (R12). -/
structure Timebase where
  localTime    : NetTime
  state        : TbState
  /-- frequency correction F -/
  freq         : Int
  /-- phase term P -/
  phase        : Int
  /-- carry C -/
  carry        : Int
  /-- adjustment n of the current period; kept when a period ends and none follows it (log 15) -/
  adjust       : Int
  /-- number of the next oscillator cycle of the current period; none while no period runs (R13) -/
  cycle        : Option Nat
  /-- how many adjustments of the current period have been applied (R12) -/
  applied      : Nat
  /-- the first label, when the acquisition count is 1; none when the count is 0 (R13, R18) -/
  acquired     : Option (BitVec 32)
  expected     : Option (BitVec 32)
  missDeadline : Option NetTime
  outlierRun   : Nat
  missRun      : Counter
  holdover     : Option Holdover
  tracked      : Bool
  lastPulse    : Option LastPulse
  accepted     : Counter
  outliers     : Counter
  missing      : Counter
  steps        : Counter
  /-- changes of the seconds counted but not yet evaluated: the MODEL's own count behind SECONDS_CHANGE (R30) -/
  secondsDue   : Nat
  deriving DecidableEq, Repr

/-! ### Feed inputs and Path Merge (03) -/

/-- Acquisition state of a feed input (R33). -/
inductive AcqState | searching | verifying | locked | impaired | lost
  deriving DecidableEq, Repr

/-- What became of a frame at its header: the offer mark (R44), and for an offered header the store's
outcome (R57): a slot of its own, a copy of a held frame, or refused for overflow. -/
inductive Fate | notOffered | stored | copy | refused
  deriving DecidableEq, Repr

/-- A frame past its accepted header. -/
structure InProgress where
  header : List Byte
  fate   : Fate
  deriving DecidableEq, Repr

/-- The items of the table of R33. -/
structure FeedInput where
  acq             : AcqState
  goodRun         : Counter
  badRun          : Counter
  silenceDeadline : NetTime
  inProgress      : Option InProgress
  goodFrames      : Counter
  badFrames       : Counter
  headerFailures  : Counter
  checkFailures   : Counter
  foreignNetwork  : Counter
  cuesSkipped     : Counter
  deriving DecidableEq, Repr

/-- Path Merge's own items (R43). -/
structure PathMerge where
  active   : InputNo
  revert   : Option Counter
  switches : Counter
  deriving DecidableEq, Repr

/-! ### Frame Store and release timeline (04) -/

/-- The fields of a slot that is not Free (04, section 4.1). -/
structure SlotInfo where
  seq     : Seq
  stamp   : NetTime
  source  : InputNo
  release : NetTime
  deriving DecidableEq, Repr

/-- A slot record (04, section 4.1). -/
inductive Slot
  | free
  | filling (info : SlotInfo) (shadow : Bool)
  | held (info : SlotInfo) (check : BitVec 32) (packets : List ServicePacket)
  | emitting (info : SlotInfo) (check : BitVec 32) (packets : List ServicePacket)
  deriving DecidableEq, Repr

/-- An entry of the gap list (04, section 4.4): `count` gap boundaries before the boundary of `seq`. -/
structure GapEntry where
  seq   : Seq
  count : Nat
  deriving DecidableEq, Repr

/-- The timeline while it is Anchored (04, section 4.4). -/
structure Timeline where
  anchorSeq    : Seq
  anchorTime   : NetTime
  nextBoundary : NetTime
  /-- the timeline sequence: the sequence of the most recent boundary that carried one -/
  lastSeq      : Seq
  runningGaps  : Nat
  gaps         : List GapEntry
  deriving DecidableEq, Repr

/-- The Frame Store (R55); the timeline is Absent when it is none. -/
structure FrameStore where
  slots        : Tab 64 Slot
  timeline     : Option Timeline
  framesHeld   : Counter
  duplicates   : Counter
  freedUnsent  : Counter
  plannedDrops : Counter
  deriving DecidableEq, Repr

/-! ### Emission Output (05) -/

/-- Output state (R76). -/
inductive OutState | idle | waiting | running | muted
  deriving DecidableEq, Repr

/-- A mute cause (R80). -/
inductive Cause | command | fault | exciter
  deriving DecidableEq, Repr

/-- The mute-cause set (R76). -/
structure CauseSet where
  command : Bool
  fault   : Bool
  exciter : Bool
  deriving DecidableEq, Repr

/-- Kind of an interval (R83). -/
inductive IntervalKind | programme | missing | gap
  deriving DecidableEq, Repr

/-- The interval in delivery (R76): its packets carry their slot instants. -/
structure Interval where
  boundary : NetTime
  seq      : Option Seq
  kind     : IntervalKind
  packets  : List (ServicePacket × NetTime)
  next     : Nat
  slot     : Option (Fin 64)
  deriving DecidableEq, Repr

/-- The Emission Output (R76) and the lines of the exciter port (R85, R87, R88). -/
structure Output where
  state        : OutState
  causes       : CauseSet
  interval     : Option Interval
  delivered    : Counter
  muted        : Counter
  missing      : Counter
  gap          : Counter
  notReady     : Counter
  /-- the packet last presented on the data lines -/
  dataLines    : Option ServicePacket
  /-- frame marker line asserted -/
  marker       : Bool
  /-- mute line asserted -/
  muteLine     : Bool
  /-- B + T_f of the last interval formed in Running, while the mute line stays released (R88) -/
  muteAt       : Option NetTime
  deriving DecidableEq, Repr

/-! ### Break Table (06) -/

/-- Entry state of a segment (06, section 6.1). -/
inductive EntryState | querying | unknown | ready | withdrawn | failed
  deriving DecidableEq, Repr

/-- An entry of a segment list (06, section 6.1), with its re-query timer (R117, R121); a timer of 0 has
been counted down and its expiry is due. -/
structure Entry where
  segment    : BitVec 32
  state      : EntryState
  count      : Option Nat
  nextOffset : Nat
  attempts   : Nat
  timer      : Option Nat
  deriving DecidableEq, Repr

/-- State of a record that is not Free (06, section 6.1). -/
inductive BreakState | pending | armed | fetching | onAir | done | abandoned
  deriving DecidableEq, Repr

/-- Origin of a break. -/
inductive Origin | feed | portA | portB
  deriving DecidableEq, Repr

/-- Termination cause (06, section 6.1). -/
inductive TermCause | completed | returned | underrunReturn | cancelled | notReady | notOnAir
  deriving DecidableEq, Repr

/-- A break record that is not Free (06, section 6.1). -/
structure BreakRec where
  id           : BitVec 16
  origin       : Origin
  state        : BreakState
  sIn          : Seq
  frames       : BitVec 16
  windows      : BitVec 8
  entries      : List Entry
  total        : Option Nat
  framesOnAir  : Nat
  replaced     : Nat
  emitted      : Nat
  underruns    : Nat
  tails        : Nat
  surplus      : Nat
  earlyMark    : Bool
  underrunMark : Bool
  cause        : Option TermCause
  termSeq      : Option Seq
  deriving DecidableEq, Repr

/-- The nine cue counters (R94). -/
structure CueCounters where
  notForZone  : Counter
  repeats     : Counter
  mismatches  : Counter
  amends      : Counter
  tooLate     : Counter
  conflicts   : Counter
  tableFull   : Counter
  noSuchBreak : Counter
  ignored     : Counter
  deriving DecidableEq, Repr

/-- The Break Table (R94); a record is Free when it is none. -/
structure BreakTable where
  records       : Tab 16 (Option BreakRec)
  terminalOrder : List (Fin 16)
  cues          : CueCounters
  deriving DecidableEq, Repr

/-! ### Advert Link and advert memory (07) -/

/-- What a request asks (R117). -/
inductive RequestKind
  | query
  | fetch (offset count : Nat)
  deriving DecidableEq, Repr

/-- Send state of a request (R117). -/
inductive SendState | waiting | beingSent | sent
  deriving DecidableEq, Repr

/-- The request record of an Awaiting slot (R117); `abortWaiting` says that its Abort waits for the line (R128). -/
structure Request where
  kind         : RequestKind
  record       : Fin 16
  breakId      : BitVec 16
  entry        : Fin 8
  segment      : BitVec 32
  send         : SendState
  deadline     : Option NetTime
  aborted      : Bool
  abortWaiting : Bool
  deriving DecidableEq, Repr

/-- The message on the outgoing line (R118), and the slot whose request it is; none for an Abort and for a
message whose slot a Site Restart has freed. -/
structure Sending where
  bytes : List Byte
  slot  : Option (Fin 2)
  deriving DecidableEq, Repr

/-- The Advert Link (R117); a request slot is Free when it is none. -/
structure AdvertLink where
  slots       : Tab 2 (Option Request)
  created     : List (Fin 16)
  retries     : Counter
  rollover    : Bool
  unsolicited : Counter
  queries     : Counter
  fetches     : Counter
  aborts      : Counter
  shorts      : Counter
  timeouts    : Counter
  withdraws   : Counter
  line        : Option Sending
  deriving DecidableEq, Repr

/-- An extent of a queue (R131). -/
inductive Extent
  | reserved (count : Nat)
  | filled (packets : List ServicePacket) (readPos : Nat)
  deriving DecidableEq, Repr

/-- Advert memory (R131): a queue for each record, and the places reserved in the name of a slot after its
record's queue has been freed (R133). -/
structure AdvertMemory where
  queues   : Tab 16 (List Extent)
  detached : Tab 2 Nat
  deriving DecidableEq, Repr

/-! ### Splice Unit (08) -/

/-- The Splice Unit (R148). The continuity table lists its set entries with rising labels. -/
structure SpliceUnit where
  continuity : List (BitVec 12 × BitVec 4)
  dropped    : Counter
  restamped  : Counter
  underruns  : Counter
  deriving DecidableEq, Repr

/-! ### Monitor Unit (09) -/

/-- Mode of a monitor (R154). -/
inductive Mode | latch | frame | warn | off
  deriving DecidableEq, Repr

/-- A monitor's own items (R151). -/
structure MonitorRec where
  count     : Nat
  condition : Bool
  latched   : Bool
  warning   : Bool
  events    : Counter
  deriving DecidableEq, Repr

/-- The first-fault record (R155); monitor M1 has number 0 here. -/
structure FirstFault where
  monitor : Fin 16
  seq     : Option Seq
  time    : NetTime
  deriving DecidableEq, Repr

/-- The Monitor Unit (R151). -/
structure MonitorUnit where
  recs  : Tab 16 MonitorRec
  first : Option FirstFault
  deriving DecidableEq, Repr

/-! ### Direction, settings, alerts, ports (10) -/

/-- Presence state of the director (R164, R167); `lastMarker` none is "any". -/
structure PresenceState where
  reference  : NetTime
  lastMarker : Option Bool
  relaxed    : Bool
  deadline   : NetTime
  deriving DecidableEq, Repr

/-- The Direction logic (R164). -/
structure Direction where
  director : Option Port
  claim    : Option Port
  presence : Option PresenceState
  deriving DecidableEq, Repr

/-- Path mode (R43). -/
inductive PathMode | merge | select
  deriving DecidableEq, Repr

/-- Kind of a label window (08, section 8.1). -/
inductive WindowKind | splice | drop
  deriving DecidableEq, Repr

/-- A label window (08, section 8.1). -/
structure Window where
  enable    : Bool
  kind      : WindowKind
  base      : BitVec 12
  mask      : BitVec 12
  translate : Bool
  newLabel  : BitVec 12
  deriving DecidableEq, Repr

/-- The two settings of a monitor (R160). -/
structure MonitorSetting where
  mode        : Mode
  persistence : Nat
  deriving DecidableEq, Repr

/-- A profile of every setting (10, table of section 10.4). -/
structure Profile where
  /-- frame interval T_f -/
  frameInterval : Nat
  /-- packets per frame N_p -/
  packets       : Nat
  /-- guard margin G -/
  guardMargin   : Nat
  /-- network delay D_net -/
  netDelay      : Nat
  /-- site trim T_trim -/
  trim          : Int
  /-- exciter latency L_x -/
  latency       : Nat
  networkId     : Nat
  /-- verify count V -/
  verify        : Nat
  /-- loss count L -/
  loss          : Nat
  holdOff       : Nat
  pathMode      : PathMode
  preferred     : InputNo
  revertive     : Bool
  /-- step threshold θ -/
  threshold     : Nat
  /-- integral divisor K_i -/
  integral      : Nat
  /-- proportional divisor K_p -/
  proportional  : Nat
  /-- frequency limit F_max -/
  freqLimit     : Nat
  /-- slew limit S_max -/
  slewLimit     : Nat
  /-- pulse guard W -/
  pulseGuard    : Nat
  missCount     : Nat
  /-- holdover allowance A -/
  allowance     : Nat
  /-- uncertainty limit U_lim -/
  uncertainty   : Nat
  /-- site zone Z -/
  zone          : Nat
  prefetch      : Nat
  startFill     : Nat
  highMark      : Nat
  retention     : Nat
  requery       : Nat
  fetchSize     : Nat
  replyTimeout  : Nat
  retries       : Nat
  presenceLow   : Nat
  presenceHigh  : Nat
  windows       : Tab 8 Window
  monitors      : Tab 16 MonitorSetting
  deriving DecidableEq, Repr

/-- The pending Apply (R170). -/
inductive PendingApply
  | none
  | next
  | atSeq (x : Seq)
  deriving DecidableEq, Repr

/-- The Staged Settings (R169, R170). -/
structure Settings where
  active : Profile
  staged : Profile
  apply  : PendingApply
  deriving DecidableEq, Repr

/-- A port's alert items (R173): pending mark and enable of each source, and the mask level. -/
structure PortAlerts where
  marks   : Tab 17 Bool
  enables : Tab 17 Bool
  mask    : Fin 3
  deriving DecidableEq, Repr

/-- The Alert logic (R173); a priority level of 1 is true. -/
structure Alerts where
  ports    : Two PortAlerts
  priority : Tab 17 Bool
  deriving DecidableEq, Repr

/-- Result of a command (01, section 1.8). -/
inductive Result
  | none | done | clamped | pending | notDirecting | badArgument | wrongState
  | tooLate | tableFull | conflict | noSuchBreak | frameError
  deriving DecidableEq, Repr

/-- The response for a port's next frame (R10). -/
structure Response where
  code   : Byte
  result : Result
  data   : List Byte
  deriving DecidableEq, Repr

/-- A management port (R10), and the status byte it last shifted out (R11; the MODEL's own record of that output). -/
structure PortState where
  response  : Response
  frameErr  : Bool
  statusOut : Option Byte
  deriving DecidableEq, Repr

/-! ### The lines (01) -/

/-- The bytes received on the lines of a frame or a message that is not yet complete (R6, R8, R9): of each feed line,
those of a header since its sync word, or those since the accepted header; of the time-of-day line, those since the
marker; of the incoming advert line, those since the kind. -/
structure Lines where
  feeds  : Two (List Byte)
  tod    : List Byte
  advert : List Byte
  deriving DecidableEq, Repr

/-! ### The machine -/

/-- The state of the FL-716. `pending` is the queue of waiting commands, front first; `freeCount` is the model's
own counter to which the free values of `Config` are applied. -/
structure State where
  tb        : Timebase
  tod       : TodState
  feeds     : Two FeedInput
  merge     : PathMerge
  store     : FrameStore
  output    : Output
  breaks    : BreakTable
  link      : AdvertLink
  memory    : AdvertMemory
  splice    : SpliceUnit
  monitors  : MonitorUnit
  direction : Direction
  settings  : Settings
  alerts    : Alerts
  ports     : Two PortState
  lines     : Lines
  freeCount : Nat
  pending   : List Instr
  deriving DecidableEq, Repr

/-- Reasons to stop with a fault. There is none: every fault of the manual is an effect on state
(a monitor, a counter, a result), so no command stops the machine. -/
inductive Fault
  deriving DecidableEq, Repr

/-- Reasons to refuse a command. -/
inductive Refusal
  /-- Raised by an arm of `exec` whose command has no meaning yet, and by nothing else. Safe: the machine
  stops where the hardware goes on. -/
  | notModelled (mnemonic : String)
  deriving DecidableEq, Repr

/-- A monitor's settings as the table of 9.1 gives them, but for the modes and persistences named here:
M4 LATCH 5, M10 LATCH 1, M11 FRAME 1, all others WARN 1. -/
def defaultMonitors : Tab 16 MonitorSetting :=
  (((Tab.const 16 ⟨.warn, 1⟩).set 3 ⟨.latch, 5⟩).set 9 ⟨.latch, 1⟩).set 10 ⟨.frame, 1⟩

/-- The default label window (08, section 8.1). -/
def defaultWindow : Window := ⟨false, .splice, 0, 0xFFF, false, 0⟩

/-- The defaults of the settings table (10, section 10.4). -/
def defaultProfile : Profile where
  frameInterval := 240000
  packets       := 384
  guardMargin   := 20000
  netDelay      := 5000000
  trim          := 0
  latency       := 0
  networkId     := 0
  verify        := 3
  loss          := 8
  holdOff       := 2500
  pathMode      := .merge
  preferred     := .one
  revertive     := true
  threshold     := 50
  integral      := 16
  proportional  := 2
  freqLimit     := 20000
  slewLimit     := 10000
  pulseGuard    := 1000
  missCount     := 3
  allowance     := 50
  uncertainty   := 1000
  zone          := 0
  prefetch      := 250
  startFill     := 512
  highMark      := 2048
  retention     := 1250
  requery       := 125
  fetchSize     := 128
  replyTimeout  := 50
  retries       := 2
  presenceLow   := 100
  presenceHigh  := 2000
  windows       := Tab.const 8 defaultWindow
  monitors      := defaultMonitors

/-- The timebase after a full reset (table under R13, R14). -/
def Timebase.reset : Timebase where
  localTime    := ⟨0, 0⟩
  state        := .free
  freq         := 0
  phase        := 0
  carry        := 0
  adjust       := 0
  cycle        := some 0
  applied      := 0
  acquired     := none
  expected     := none
  missDeadline := none
  outlierRun   := 0
  missRun      := 0
  holdover     := none
  tracked      := false
  lastPulse    := none
  accepted     := 0
  outliers     := 0
  missing      := 0
  steps        := 0
  secondsDue   := 0

/-- A feed input after a reset, with its silence deadline (R33). -/
def FeedInput.reset (deadline : NetTime) : FeedInput where
  acq             := .searching
  goodRun         := 0
  badRun          := 0
  silenceDeadline := deadline
  inProgress      := none
  goodFrames      := 0
  badFrames       := 0
  headerFailures  := 0
  checkFailures   := 0
  foreignNetwork  := 0
  cuesSkipped     := 0

/-- Path Merge after a reset, with the preferred input of the active profile (R43). -/
def PathMerge.reset (preferred : InputNo) : PathMerge := ⟨preferred, none, 0⟩

/-- The Frame Store after a reset (R55). -/
def FrameStore.reset : FrameStore := ⟨Tab.const 64 .free, none, 0, 0, 0, 0⟩

/-- The Emission Output after a full reset (R76, R88). -/
def Output.reset : Output where
  state     := .idle
  causes    := ⟨false, false, false⟩
  interval  := none
  delivered := 0
  muted     := 0
  missing   := 0
  gap       := 0
  notReady  := 0
  dataLines := none
  marker    := false
  muteLine  := true
  muteAt    := none

/-- The Break Table after a reset (R94). -/
def BreakTable.reset : BreakTable := ⟨Tab.const 16 none, [], ⟨0, 0, 0, 0, 0, 0, 0, 0, 0⟩⟩

/-- The Advert Link after a full reset (R117, R9). -/
def AdvertLink.reset : AdvertLink := ⟨Tab.const 2 none, [], 0, false, 0, 0, 0, 0, 0, 0, 0, none⟩

/-- Advert memory after a reset (R131). -/
def AdvertMemory.reset : AdvertMemory := ⟨Tab.const 16 [], Tab.const 2 0⟩

/-- The Splice Unit after a reset (R148). -/
def SpliceUnit.reset : SpliceUnit := ⟨[], 0, 0, 0⟩

/-- The Monitor Unit after a reset (R151). -/
def MonitorUnit.reset : MonitorUnit := ⟨Tab.const 16 ⟨0, false, false, false, 0⟩, none⟩

/-- The Alert logic after a full reset (R173). -/
def Alerts.reset : Alerts :=
  ⟨⟨⟨Tab.const 17 false, Tab.const 17 true, 0⟩, ⟨Tab.const 17 false, Tab.const 17 true, 0⟩⟩, Tab.const 17 false⟩

/-- A port after a full reset (R10). -/
def PortState.reset : PortState := ⟨⟨0, .none, []⟩, false, none⟩

/-- The lines after a reset: nothing is partly received (R8, R9, R33). -/
def Lines.reset : Lines := ⟨⟨[], []⟩, [], []⟩

/-- The machine right after a full reset: every item at the value its rule gives (R14, R33, R43, R55, R76, R94,
R117, R131, R148, R151, R164, R169, R172, R173, R10, R8, R9), the silence deadlines at 0 s + 960,000 ticks (R33). -/
def State.reset : State where
  tb        := Timebase.reset
  tod       := .none
  feeds     := ⟨FeedInput.reset ⟨0, 960000⟩, FeedInput.reset ⟨0, 960000⟩⟩
  merge     := PathMerge.reset .one
  store     := FrameStore.reset
  output    := Output.reset
  breaks    := BreakTable.reset
  link      := AdvertLink.reset
  memory    := AdvertMemory.reset
  splice    := SpliceUnit.reset
  monitors  := MonitorUnit.reset
  direction := ⟨none, none, none⟩
  settings  := ⟨defaultProfile, defaultProfile, .none⟩
  alerts    := Alerts.reset
  ports     := ⟨PortState.reset, PortState.reset⟩
  lines     := Lines.reset
  freeCount := 0
  pending   := []

end Sys2Proof.Machine
end

