-- ==== Sys2Proof/Machine/Ops.lean ====
section
/-! DEFINITION. The shared operations: updates of State, network time (R1, R2), sequence numbers (R3),
check sequences (R4), bytes, and saturating counters. -/

namespace Sys2Proof.Machine

open Sys2Proof

/-! ### Updates of State -/

/-- `s` with its `tb` replaced. -/
def State.setTb (s : State) (v : Timebase) : State := { s with tb := v }

/-- `s` with its `tod` replaced. -/
def State.setTod (s : State) (v : TodState) : State := { s with tod := v }

/-- `s` with its `feeds` replaced. -/
def State.setFeeds (s : State) (v : Two FeedInput) : State := { s with feeds := v }

/-- `s` with its `merge` replaced. -/
def State.setMerge (s : State) (v : PathMerge) : State := { s with merge := v }

/-- `s` with its `store` replaced. -/
def State.setStore (s : State) (v : FrameStore) : State := { s with store := v }

/-- `s` with its `output` replaced. -/
def State.setOutput (s : State) (v : Output) : State := { s with output := v }

/-- `s` with its `breaks` replaced. -/
def State.setBreaks (s : State) (v : BreakTable) : State := { s with breaks := v }

/-- `s` with its `link` replaced. -/
def State.setLink (s : State) (v : AdvertLink) : State := { s with link := v }

/-- `s` with its `memory` replaced. -/
def State.setMemory (s : State) (v : AdvertMemory) : State := { s with memory := v }

/-- `s` with its `splice` replaced. -/
def State.setSplice (s : State) (v : SpliceUnit) : State := { s with splice := v }

/-- `s` with its `monitors` replaced. -/
def State.setMonitors (s : State) (v : MonitorUnit) : State := { s with monitors := v }

/-- `s` with its `direction` replaced. -/
def State.setDirection (s : State) (v : Direction) : State := { s with direction := v }

/-- `s` with its `settings` replaced. -/
def State.setSettings (s : State) (v : Settings) : State := { s with settings := v }

/-- `s` with its `alerts` replaced. -/
def State.setAlerts (s : State) (v : Alerts) : State := { s with alerts := v }

/-- `s` with its `ports` replaced. -/
def State.setPorts (s : State) (v : Two PortState) : State := { s with ports := v }

/-- `s` with its `lines` replaced. -/
def State.setLines (s : State) (v : Lines) : State := { s with lines := v }

/-- `s` with its `freeCount` replaced. -/
def State.setFreeCount (s : State) (v : Nat) : State := { s with freeCount := v }

/-- `s` with its `pending` replaced. -/
def State.setPending (s : State) (v : List Instr) : State := { s with pending := v }

/-- The active profile, which every block reads (10, section 10.4). -/
def State.profile (s : State) : Profile := s.settings.active

/-! ### Pairs by port and by input -/

/-- The item of a port. -/
def portOf {α : Type} (t : Two α) : Port → α
  | .a => t.fst
  | .b => t.snd

/-- The pair with the item of a port replaced. -/
def setPortOf {α : Type} (t : Two α) (p : Port) (v : α) : Two α :=
  match p with
  | .a => { t with fst := v }
  | .b => { t with snd := v }

/-- The other port. -/
def otherPort : Port → Port
  | .a => .b
  | .b => .a

/-- The item of an input. -/
def inputOf {α : Type} (t : Two α) : InputNo → α
  | .one => t.fst
  | .two => t.snd

/-- The pair with the item of an input replaced. -/
def setInputOf {α : Type} (t : Two α) (i : InputNo) (v : α) : Two α :=
  match i with
  | .one => { t with fst := v }
  | .two => { t with snd := v }

/-- The other input. -/
def otherInput : InputNo → InputNo
  | .one => .two
  | .two => .one

/-! ### Counters -/

/-- A saturating 16-bit counter plus one (00, section 6). -/
def satInc (c : Counter) : Counter := if c = 65535 then c else c + 1

/-- A value saturated to 32 bits (R13: h and U). -/
def sat32 (n : Nat) : BitVec 32 := BitVec.ofNat 32 (min n 4294967295)

/-! ### Network time -/

/-- The total count of ticks of a network time (R1). -/
def totalTicks (t : NetTime) : Nat := t.sec.toNat * Config.ticksPerSecond + t.tick.val

/-- The network time of a total count of ticks, reduced modulo 2^32 seconds and split (R1). -/
def ofTicks (n : Nat) : NetTime :=
  ⟨BitVec.ofNat 32 (n / Config.ticksPerSecond), ⟨n % 10000000, Nat.mod_lt _ (by decide)⟩⟩

/-- R1: a network time plus a signed offset of ticks. -/
def addTicks (t : NetTime) (offset : Int) : NetTime :=
  ofTicks (((totalTicks t : Int) + offset) % (Config.timeRange : Int)).toNat

/-- R2: the signed difference a − b in ticks; exactly half the range is negative. -/
def timeDiff (a b : NetTime) : Int :=
  let d := ((totalTicks a : Int) - totalTicks b) % (Config.timeRange : Int)
  if d < Config.halfRange then d else d - Config.timeRange

/-- Local time `now` has reached or passed a deadline (R29). -/
def reached (now deadline : NetTime) : Bool := decide (0 ≤ timeDiff now deadline)

/-- The start of a second (R15, R20). -/
def startOfSecond (seconds : BitVec 32) : NetTime := ⟨seconds, 0⟩

/-- An integer held to −limit to +limit (R22). -/
def clampAbs (limit : Nat) (x : Int) : Int := max (-(limit : Int)) (min limit x)

/-! ### Sequence numbers -/

/-- R3: a follows b. -/
def follows (a b : Seq) : Bool := decide (1 ≤ (a - b).toNat ∧ (a - b).toNat ≤ 32767)

/-- R3: a is at or after b. -/
def atOrAfter (a b : Seq) : Bool := decide ((a - b).toNat ≤ 32767)

/-- 01, section 1.2: q lies in the frame range [first, first + n). -/
def inRange (q first : Seq) (n : Nat) : Bool := decide ((q - first).toNat < n)

/-- 01, section 1.2: two frame ranges intersect when the first sequence of either lies in the other. -/
def rangesMeet (f1 : Seq) (n1 : Nat) (f2 : Seq) (n2 : Nat) : Bool := inRange f1 f2 n2 || inRange f2 f1 n1

/-- The signed sequence difference of q from a (R63). -/
def seqDiff (q a : Seq) : Int :=
  if (q - a).toNat ≤ 32767 then ((q - a).toNat : Int) else ((q - a).toNat : Int) - 65536

/-! ### Bytes -/

/-- The number that bytes give, most significant byte first. -/
def beNat (bytes : List Byte) : Nat := bytes.foldl (fun acc b => acc * 256 + b.toNat) 0

/-- `width` bytes of a number, most significant byte first; higher bits are left out. -/
def beBytes : (width : Nat) → Nat → List Byte
  | 0, _ => []
  | w + 1, n => BitVec.ofNat 8 (n / 256 ^ w) :: beBytes w n

/-- `width` bytes of a signed number in two's complement. -/
def beSigned (width : Nat) (x : Int) : List Byte := beBytes width (x % (256 ^ width : Nat)).toNat

/-- The signed number that bytes give in two's complement. -/
def beInt (bytes : List Byte) : Int :=
  if 2 * beNat bytes < 256 ^ bytes.length then (beNat bytes : Int) else (beNat bytes : Int) - (256 ^ bytes.length : Nat)

/-! ### Check sequences (R4) -/

/-- One data bit: shift towards the most significant end, and combine with the polynomial when the bit shifted
out differs from the data bit. -/
def crcBit {w : Nat} (poly reg : BitVec w) (bit : Bool) : BitVec w :=
  if reg.msb != bit then (reg <<< 1) ^^^ poly else reg <<< 1

/-- One byte, most significant bit first. -/
def crcByte {w : Nat} (poly reg : BitVec w) (b : Byte) : BitVec w :=
  [7, 6, 5, 4, 3, 2, 1, 0].foldl (fun r i => crcBit poly r (b.getLsbD i)) reg

/-- R4: the check value over the covered bytes. -/
def crc {w : Nat} (poly init : BitVec w) (bytes : List Byte) : BitVec w := bytes.foldl (crcByte poly) init

/-- CRC-8 of management frames. -/
def crc8 (bytes : List Byte) : BitVec 8 := crc 0x07 0x00 bytes

/-- CRC-16 of the carriage frame header. -/
def crc16 (bytes : List Byte) : BitVec 16 := crc 0x1021 0xFFFF bytes

/-- CRC-32 of the carriage frame and of advert link messages. -/
def crc32 (bytes : List Byte) : BitVec 32 := crc 0x04C11DB7 0xFFFFFFFF bytes

/-! ### Service packets (R5) -/

/-- The null packet, formed in full (R5). -/
def nullPacket : ServicePacket := ⟨0x5A, false, 0, 0xFFF, 0, 0, List.replicate Config.payloadBytes 0⟩

/-- The 188 bytes of a packet (01, section 1.4). -/
def packetBytes (p : ServicePacket) : List Byte :=
  let word := (if p.unitStart then 32768 else 0) + p.cls.toNat * 4096 + p.label.toNat
  p.sync :: beBytes 2 word ++ BitVec.ofNat 8 (p.continuity.toNat * 16 + p.low.toNat) :: p.payload

/-- The packet that 188 bytes give (01, section 1.4). -/
def packetOfBytes (bytes : List Byte) : ServicePacket :=
  let word := beNat ((bytes.drop 1).take 2)
  let b3 := (bytes.getD 3 0).toNat
  ⟨bytes.getD 0 0, decide (32768 ≤ word), BitVec.ofNat 3 (word / 4096), BitVec.ofNat 12 word,
    BitVec.ofNat 4 (b3 / 16), BitVec.ofNat 4 b3, bytes.drop 4⟩

/-- `count` packets of 188 bytes each, from the front of `bytes`. -/
def packetsOfBytes : (count : Nat) → List Byte → List ServicePacket
  | 0, _ => []
  | n + 1, bytes => packetOfBytes (bytes.take 188) :: packetsOfBytes n (bytes.drop 188)

/-! ### The continuity table's sparse form (R145) -/

/-- The entry of a label; none is unset. -/
def lookupLabel (label : BitVec 12) : List (BitVec 12 × BitVec 4) → Option (BitVec 4)
  | [] => none
  | (l, c) :: rest => if l = label then some c else lookupLabel label rest

/-- The table with the entry of a label set, its labels kept rising. -/
def storeLabel (label : BitVec 12) (count : BitVec 4) : List (BitVec 12 × BitVec 4) → List (BitVec 12 × BitVec 4)
  | [] => [(label, count)]
  | (l, c) :: rest =>
    if l = label then (label, count) :: rest
    else if label < l then (label, count) :: (l, c) :: rest
    else (l, c) :: storeLabel label count rest

/-! ### Folding a change over numbered entries -/

/-- All numbers below n, lowest first. -/
def numbers (n : Nat) : List (Fin n) := List.finRange n

/-- A change of state made for each number in turn, lowest first. -/
def forEach {n : Nat} (f : Fin n → State → State) (s : State) : State :=
  (numbers n).foldl (fun s i => f i s) s

end Sys2Proof.Machine
end

