-- ==== Sys2Proof/Machine/Operands.lean ====
section
/-! DEFINITION. The operand forms: carriage frames (R6, R7), the time-of-day message (R8), advert link messages
(R9), command arguments, setting ids (R169), and the encoding of response fields (R162). -/

namespace Sys2Proof.Machine

open Sys2Proof

/-- The number in `width` bytes that start at byte `pos`. -/
def field (bytes : List Byte) (pos width : Nat) : Nat := beNat ((bytes.drop pos).take width)

/-! ### Carriage frames (01, section 1.5) -/

/-- Why a frame is bad (R6): the failing header test, a packet sync failure, or a frame check failure. -/
inductive BadCause
  | headerCheck | version | networkId | stampTicks | packetCount | cueCount | packetSync | frameCheck
  deriving DecidableEq, Repr

/-- The header's sync word (01, section 1.5). -/
def headerSync (h : List Byte) : Bool := field h 0 2 == 0xC35E

/-- R6: the first header test that fails, in the order of the rule; none for a good header. -/
def headerFault (p : Profile) (h : List Byte) : Option BadCause :=
  if crc16 (h.take 18) ≠ BitVec.ofNat 16 (field h 18 2) then some .headerCheck
  else if field h 2 1 ≠ 1 then some .version
  else if field h 3 2 ≠ p.networkId then some .networkId
  else if ¬ field h 11 4 < 10000000 then some .stampTicks
  else if field h 15 2 ≠ p.packets then some .packetCount
  else if ¬ field h 17 1 ≤ 4 then some .cueCount
  else none

/-- The twenty bytes are a header: their number and the sync word. -/
def isHeader (h : List Byte) : Bool := h.length == 20 && headerSync h

/-- The header's sequence. -/
def headerSeq (h : List Byte) : Seq := BitVec.ofNat 16 (field h 5 2)

/-- The header's stamp; its ticks are below 10,000,000 in a good header. -/
def headerStamp (h : List Byte) : NetTime :=
  ⟨BitVec.ofNat 32 (field h 7 4), ⟨field h 11 4 % 10000000, Nat.mod_lt _ (by decide)⟩⟩

/-- A cue record (01, section 1.5). -/
structure Cue where
  kind     : Nat
  segCount : Nat
  zoneMask : BitVec 16
  id       : BitVec 16
  sIn      : Seq
  frames   : BitVec 16
  windows  : BitVec 8
  flags    : Byte
  segments : List (BitVec 32)
  deriving DecidableEq, Repr

/-- `count` segment ids of 4 bytes each. -/
def segmentIds : (count : Nat) → List Byte → List (BitVec 32)
  | 0, _ => []
  | n + 1, bytes => BitVec.ofNat 32 (field bytes 0 4) :: segmentIds n (bytes.drop 4)

/-- The cue record at the front of `bytes`. -/
def cueOfBytes (bytes : List Byte) : Cue :=
  let n := field bytes 1 1
  ⟨field bytes 0 1, n, BitVec.ofNat 16 (field bytes 2 2), BitVec.ofNat 16 (field bytes 4 2),
    BitVec.ofNat 16 (field bytes 6 2), BitVec.ofNat 16 (field bytes 8 2), BitVec.ofNat 8 (field bytes 10 1),
    bytes.getD 11 0, segmentIds n (bytes.drop 12)⟩

/-- `count` cue records, each of 12 + 4n bytes by its own segment count n (R6), and the bytes after them. -/
def cuesOfBytes : (count : Nat) → List Byte → Option (List Cue × List Byte)
  | 0, bytes => some ([], bytes)
  | k + 1, bytes =>
    let len := 12 + 4 * field bytes 1 1
    if bytes.length < 12 ∨ bytes.length < len then none
    else (cuesOfBytes k (bytes.drop len)).map fun (cues, rest) => (cueOfBytes bytes :: cues, rest)

/-- R7: a cue is valid. -/
def cueValid (c : Cue) : Bool :=
  decide (1 ≤ c.kind ∧ c.kind ≤ 3) && c.id != 0
    && (if c.kind == 1 then decide (1 ≤ c.segCount ∧ c.segCount ≤ 8) else c.segCount == 0)
    && decide (1 ≤ c.frames.toNat ∧ c.frames.toNat ≤ 5000)
    && c.segments.all (· != 0)

/-- What follows an accepted header: the cue records, the packets and the received frame check. -/
structure FrameBody where
  cues    : List Cue
  packets : List ServicePacket
  check   : BitVec 32
  deriving DecidableEq, Repr

/-- R6: the parts of a frame whose header was accepted; none when `rest` is not exactly its cue records, its
packets and its frame check, so that the frame does not end there. -/
def frameBody (header rest : List Byte) : Option FrameBody :=
  match cuesOfBytes (field header 17 1) rest with
  | none => none
  | some (cues, tail) =>
    let n := field header 15 2
    if tail.length = 188 * n + 4 then
      some ⟨cues, packetsOfBytes n tail, BitVec.ofNat 32 (field tail (188 * n) 4)⟩
    else none

/-- The bytes the frame check covers: from the network id to the last packet byte (01, section 1.5). -/
def frameCovered (header rest : List Byte) : List Byte := header.drop 3 ++ rest.take (rest.length - 4)

/-- R6: the cause that makes a whole frame bad; none for a good frame. A frame check failure goes first. -/
def bodyFault (header rest : List Byte) (body : FrameBody) : Option BadCause :=
  if crc32 (frameCovered header rest) ≠ body.check then some .frameCheck
  else if body.packets.any (·.sync != 0x5A) then some .packetSync
  else none

/-! ### The time-of-day message (01, section 1.6) -/

/-- R8: the bytes are one message of eight bytes that starts with the marker. -/
def isTodMessage (m : List Byte) : Bool := m.length == 8 && m.getD 0 0 == 0xA5

/-- R8: byte 7 equals the sum of bytes 0 to 6 modulo 256. -/
def todCheck (m : List Byte) : Bool := (m.take 7).foldl (· + ·) 0 == m.getD 7 0

/-- R8: the state a completed message makes. -/
def todOfMessage (m : List Byte) : TodState :=
  if todCheck m && (m.getD 1 0).getLsbD 0 then .accepted (BitVec.ofNat 32 (field m 2 4)) else .invalid

/-! ### Advert link messages (01, section 1.7) -/

/-- An advert link message as its receiver takes it from the line (R9): the kind, as many body bytes as the
body length says, and the four check bytes. -/
structure RawMessage where
  kind  : Byte
  body  : List Byte
  check : BitVec 32
  deriving DecidableEq, Repr

/-- The bytes the CRC-32 of a message covers: kind, body length, body. -/
def messageCovered (kind : Byte) (body : List Byte) : List Byte := kind :: beBytes 3 body.length ++ body

/-- A message as the device sends it, with its CRC-32 (R9, R4). -/
def messageBytes (kind : Byte) (body : List Byte) : List Byte :=
  messageCovered kind body ++ beBytes 4 (crc32 (messageCovered kind body)).toNat

/-- A Query of a slot (01, section 1.7). -/
def queryMessage (slot : Fin 2) (segment : BitVec 32) : List Byte :=
  messageBytes 0x01 (beBytes 1 slot.val ++ beBytes 4 segment.toNat)

/-- A Fetch of a slot. -/
def fetchMessage (slot : Fin 2) (id : BitVec 16) (segment : BitVec 32) (offset count : Nat) : List Byte :=
  messageBytes 0x02 (beBytes 1 slot.val ++ beBytes 2 id.toNat ++ beBytes 4 segment.toNat ++ beBytes 4 offset ++ beBytes 2 count)

/-- An Abort of a slot. -/
def abortMessage (slot : Fin 2) : List Byte := messageBytes 0x03 (beBytes 1 slot.val)

/-- A Ready as the server sends it. -/
def readyMessage (tag : Byte) (segment count : BitVec 32) : List Byte :=
  messageBytes 0x11 (tag :: beBytes 4 segment.toNat ++ beBytes 4 count.toNat)

/-- An Unknown. -/
def unknownMessage (tag : Byte) (segment : BitVec 32) : List Byte := messageBytes 0x12 (tag :: beBytes 4 segment.toNat)

/-- A Burst. -/
def burstMessage (tag : Byte) (breakId : BitVec 16) (segment offset : BitVec 32) (packets : List ServicePacket) :
    List Byte :=
  messageBytes 0x13 (tag :: beBytes 2 breakId.toNat ++ beBytes 4 segment.toNat ++ beBytes 4 offset.toNat
    ++ beBytes 2 packets.length ++ (packets.map packetBytes).flatten)

/-- A Withdraw. -/
def withdrawMessage (segment : BitVec 32) : List Byte := messageBytes 0x14 (beBytes 4 segment.toNat)

/-- R9: the body length that a kind the server sends must have; none for any other kind. -/
def bodyLengthOf (m : RawMessage) : Option Nat :=
  if m.kind = 0x11 then some 9
  else if m.kind = 0x12 then some 5
  else if m.kind = 0x13 then some (13 + 188 * field m.body 11 2)
  else if m.kind = 0x14 then some 4
  else none

/-- The packets of a Burst's body. -/
def burstPackets (m : RawMessage) : List ServicePacket := packetsOfBytes (field m.body 11 2) (m.body.drop 13)

/-- R9: a received message is corrupt. -/
def messageCorrupt (m : RawMessage) : Bool :=
  crc32 (messageCovered m.kind m.body) != m.check
    || bodyLengthOf m != some m.body.length
    || (m.kind == 0x11 && (field m.body 5 4 == 0 || decide (16777215 < field m.body 5 4)))
    || (m.kind == 0x13 && (decide (m.body.length < 13) || (burstPackets m).any (·.sync != 0x5A)))

/-- The request slot a tag names; a tag above 1 names none (log 24). -/
def slotOfTag (tag : Byte) : Option (Fin 2) := if tag = 0 then some 0 else if tag = 1 then some 1 else none

/-- R9: the tag of a corrupt message that can be read, as the slot it names. -/
def readableTag (m : RawMessage) : Option (Fin 2) :=
  if m.kind = 0x11 ∨ m.kind = 0x12 ∨ m.kind = 0x13 then
    match m.body with
    | [] => none
    | t :: _ => slotOfTag t
  else none

/-! ### Setting ids (10, section 10.4) -/

/-- Class of a setting: numeric with its range, or enumerated with its values. -/
inductive SettingClass
  | numeric (low high : Int)
  | enumerated (values : List Int)
  deriving DecidableEq, Repr

/-- The class of a setting id (tables of 10.4 and 8.1); none for an id outside 1 to 113. -/
def settingClass (id : Nat) : Option SettingClass :=
  match id with
  | 1 => some (.numeric 10000 1000000)
  | 2 => some (.numeric 8 512)
  | 3 => some (.numeric 0 1000000)
  | 4 => some (.numeric 0 20000000)
  | 5 => some (.numeric (-1000000) 1000000)
  | 6 => some (.numeric 0 500000)
  | 7 => some (.numeric 0 65535)
  | 8 => some (.numeric 1 16)
  | 9 => some (.numeric 1 255)
  | 10 => some (.numeric 0 65535)
  | 11 => some (.enumerated [0, 1])
  | 12 => some (.enumerated [1, 2])
  | 13 => some (.enumerated [0, 1])
  | 14 => some (.numeric 1 10000)
  | 15 => some (.numeric 4 256)
  | 16 => some (.numeric 1 16)
  | 17 => some (.numeric 0 50000)
  | 18 => some (.numeric 100 100000)
  | 19 => some (.numeric 10 100000)
  | 20 => some (.numeric 1 10)
  | 21 => some (.numeric 0 10000)
  | 22 => some (.numeric 1 100000)
  | 23 => some (.numeric 0 15)
  | 24 => some (.numeric 1 2000)
  | 25 => some (.numeric 0 4096)
  | 26 => some (.numeric 256 4096)
  | 27 => some (.numeric 0 65535)
  | 28 => some (.numeric 1 1000)
  | 29 => some (.numeric 16 256)
  | 30 => some (.numeric 1 1000)
  | 31 => some (.numeric 0 3)
  | 32 => some (.numeric 0 60000)
  | 33 => some (.numeric 100 60000)
  | n =>
    if 34 ≤ n ∧ n ≤ 81 then
      match (n - 34) % 6 with
      | 0 => some (.enumerated [0, 1])
      | 1 => some (.enumerated [0, 1])
      | 4 => some (.enumerated [0, 1])
      | _ => some (.numeric 0 4095)
    else if 82 ≤ n ∧ n ≤ 113 then
      if n = 110 then some (.enumerated [0, 2, 3])
      else if n % 2 = 0 then some (.enumerated [0, 1, 2, 3])
      else some (.numeric 1 255)
    else none

/-- The number of a flag setting (10.4: 0 off, 1 on). -/
def boolValue (b : Bool) : Int := if b then 1 else 0

/-- The number of a monitor mode (10.4). -/
def modeValue : Mode → Int
  | .latch => 0
  | .frame => 1
  | .warn => 2
  | .off => 3

/-- The monitor mode of a number (10.4). -/
def modeOfValue (v : Int) : Mode := if v = 0 then .latch else if v = 1 then .frame else if v = 2 then .warn else .off

/-- A field of a label window as a setting value (8.1, 10.4). -/
def windowField (w : Window) (f : Nat) : Int :=
  match f with
  | 0 => boolValue w.enable
  | 1 => if w.kind = .splice then 0 else 1
  | 2 => w.base.toNat
  | 3 => w.mask.toNat
  | 4 => boolValue w.translate
  | _ => w.newLabel.toNat

/-- A label window with a field replaced by a setting value. -/
def setWindowField (w : Window) (f : Nat) (v : Int) : Window :=
  match f with
  | 0 => { w with enable := decide (v = 1) }
  | 1 => { w with kind := if v = 0 then .splice else .drop }
  | 2 => { w with base := BitVec.ofInt 12 v }
  | 3 => { w with mask := BitVec.ofInt 12 v }
  | 4 => { w with translate := decide (v = 1) }
  | _ => { w with newLabel := BitVec.ofInt 12 v }

/-- The label window of a setting id 34 to 81. -/
def windowOfId (id : Nat) : Fin 8 := ⟨(id - 34) / 6 % 8, Nat.mod_lt _ (by decide)⟩

/-- The monitor of a setting id 82 to 113; M1 is number 0. -/
def monitorOfId (id : Nat) : Fin 16 := ⟨(id - 82) / 2 % 16, Nat.mod_lt _ (by decide)⟩

/-- The value of a setting in a profile, by its id (10.4). -/
def settingValue (p : Profile) (id : Nat) : Int :=
  match id with
  | 1 => p.frameInterval
  | 2 => p.packets
  | 3 => p.guardMargin
  | 4 => p.netDelay
  | 5 => p.trim
  | 6 => p.latency
  | 7 => p.networkId
  | 8 => p.verify
  | 9 => p.loss
  | 10 => p.holdOff
  | 11 => if p.pathMode = .merge then 0 else 1
  | 12 => if p.preferred = .one then 1 else 2
  | 13 => boolValue p.revertive
  | 14 => p.threshold
  | 15 => p.integral
  | 16 => p.proportional
  | 17 => p.freqLimit
  | 18 => p.slewLimit
  | 19 => p.pulseGuard
  | 20 => p.missCount
  | 21 => p.allowance
  | 22 => p.uncertainty
  | 23 => p.zone
  | 24 => p.prefetch
  | 25 => p.startFill
  | 26 => p.highMark
  | 27 => p.retention
  | 28 => p.requery
  | 29 => p.fetchSize
  | 30 => p.replyTimeout
  | 31 => p.retries
  | 32 => p.presenceLow
  | 33 => p.presenceHigh
  | n =>
    if n ≤ 81 then windowField (p.windows.get (windowOfId n)) ((n - 34) % 6)
    else if n % 2 = 0 then modeValue (p.monitors.get (monitorOfId n)).mode
    else (p.monitors.get (monitorOfId n)).persistence

/-- A profile with a setting replaced by a value of its range (10.4). -/
def withSetting (p : Profile) (id : Nat) (v : Int) : Profile :=
  match id with
  | 1 => { p with frameInterval := v.toNat }
  | 2 => { p with packets := v.toNat }
  | 3 => { p with guardMargin := v.toNat }
  | 4 => { p with netDelay := v.toNat }
  | 5 => { p with trim := v }
  | 6 => { p with latency := v.toNat }
  | 7 => { p with networkId := v.toNat }
  | 8 => { p with verify := v.toNat }
  | 9 => { p with loss := v.toNat }
  | 10 => { p with holdOff := v.toNat }
  | 11 => { p with pathMode := if v = 0 then .merge else .select }
  | 12 => { p with preferred := if v = 1 then .one else .two }
  | 13 => { p with revertive := decide (v = 1) }
  | 14 => { p with threshold := v.toNat }
  | 15 => { p with integral := v.toNat }
  | 16 => { p with proportional := v.toNat }
  | 17 => { p with freqLimit := v.toNat }
  | 18 => { p with slewLimit := v.toNat }
  | 19 => { p with pulseGuard := v.toNat }
  | 20 => { p with missCount := v.toNat }
  | 21 => { p with allowance := v.toNat }
  | 22 => { p with uncertainty := v.toNat }
  | 23 => { p with zone := v.toNat }
  | 24 => { p with prefetch := v.toNat }
  | 25 => { p with startFill := v.toNat }
  | 26 => { p with highMark := v.toNat }
  | 27 => { p with retention := v.toNat }
  | 28 => { p with requery := v.toNat }
  | 29 => { p with fetchSize := v.toNat }
  | 30 => { p with replyTimeout := v.toNat }
  | 31 => { p with retries := v.toNat }
  | 32 => { p with presenceLow := v.toNat }
  | 33 => { p with presenceHigh := v.toNat }
  | n =>
    if n ≤ 81 then
      { p with windows := p.windows.modify (windowOfId n) fun w => setWindowField w ((n - 34) % 6) v }
    else if n % 2 = 0 then
      { p with monitors := p.monitors.modify (monitorOfId n) fun m => { m with mode := modeOfValue v } }
    else
      { p with monitors := p.monitors.modify (monitorOfId n) fun m => { m with persistence := v.toNat } }

/-! ### Fields of responses (R162) -/

/-- A one-byte field. -/
def byte1 (n : Nat) : List Byte := beBytes 1 n

/-- A two-byte field: a sequence, a break id, a 16-bit counter, and a range between one and two bytes (log 17). -/
def byte2 (n : Nat) : List Byte := beBytes 2 n

/-- A four-byte field. -/
def byte4 (n : Nat) : List Byte := beBytes 4 n

/-- R162: a network time, seconds then ticks. -/
def timeField (t : NetTime) : List Byte := byte4 t.sec.toNat ++ byte4 t.tick.val

/-- R162: a field that may be absent: a presence byte, then the field or zero bytes of its width. -/
def optField (width : Nat) : Option (List Byte) → List Byte
  | none => 0 :: List.replicate width 0
  | some b => 1 :: b

/-- R162: a list: a count byte, then the entries. -/
def listField (entries : List (List Byte)) : List Byte := byte1 entries.length ++ entries.flatten

/-- R162: a flag or a mark, enumerated in the order the owning rules list its values: set, clear (log 16). -/
def markField (b : Bool) : List Byte := byte1 (if b then 0 else 1)

/-- R162: a condition, enumerated in the order R151 lists its values: active, inactive (log 16). -/
def conditionField (b : Bool) : List Byte := byte1 (if b then 0 else 1)

/-- R162: a setting that is on or off, by its numbers in the settings table (log 16). -/
def switchField (b : Bool) : List Byte := byte1 (if b then 1 else 0)

/-- The number of an input, sent as it stands, 1 or 2: the model's choice (log 16). -/
def inputCode : InputNo → Nat
  | .one => 1
  | .two => 2

/-- none, A, B (R164). -/
def portCode : Option Port → Nat
  | none => 0
  | some .a => 1
  | some .b => 2

/-- The timebase state, in the order of R13. -/
def tbCode : TbState → Nat
  | .free => 0
  | .acquiring => 1
  | .tracking => 2
  | .slewing => 3
  | .holdover => 4
  | .expired => 5

/-- The acquisition state, in the order of R33. -/
def acqCode : AcqState → Nat
  | .searching => 0
  | .verifying => 1
  | .locked => 2
  | .impaired => 3
  | .lost => 4

/-- The output state, in the order of R76. -/
def outCode : OutState → Nat
  | .idle => 0
  | .waiting => 1
  | .running => 2
  | .muted => 3

/-- The mute-cause set as a bitmap, in the order of R76. -/
def causeBits (c : CauseSet) : Nat :=
  (if c.command then 1 else 0) + (if c.fault then 2 else 0) + (if c.exciter then 4 else 0)

/-- The kind of an interval, in the order of R76. -/
def kindCode : IntervalKind → Nat
  | .programme => 0
  | .missing => 1
  | .gap => 2

/-- The record state, Free first (06, section 6.1). -/
def breakCode : Option BreakState → Nat
  | none => 0
  | some .pending => 1
  | some .armed => 2
  | some .fetching => 3
  | some .onAir => 4
  | some .done => 5
  | some .abandoned => 6

/-- The entry state (06, section 6.1). -/
def entryCode : EntryState → Nat
  | .querying => 0
  | .unknown => 1
  | .ready => 2
  | .withdrawn => 3
  | .failed => 4

/-- The origin of a break (06, section 6.1). -/
def originCode : Origin → Nat
  | .feed => 0
  | .portA => 1
  | .portB => 2

/-- The termination cause (06, section 6.1). -/
def termCode : TermCause → Nat
  | .completed => 0
  | .returned => 1
  | .underrunReturn => 2
  | .cancelled => 3
  | .notReady => 4
  | .notOnAir => 5

/-- The send state of a request (R117). -/
def sendCode : SendState → Nat
  | .waiting => 0
  | .beingSent => 1
  | .sent => 2

/-- The code of a result (01, section 1.8). -/
def resultCode : Result → Byte
  | .none => 0x00
  | .done => 0x01
  | .clamped => 0x02
  | .pending => 0x03
  | .notDirecting => 0x04
  | .badArgument => 0x05
  | .wrongState => 0x06
  | .tooLate => 0x07
  | .tableFull => 0x08
  | .conflict => 0x09
  | .noSuchBreak => 0x0A
  | .frameError => 0x0B

/-- The bytes of a response from byte 1 on, with its CRC-8 over bytes 1 to 3 + length (01, section 1.8). -/
def responseBytes (r : Response) : List Byte :=
  let covered := r.code :: resultCode r.result :: BitVec.ofNat 8 r.data.length :: r.data
  covered ++ [crc8 covered]

end Sys2Proof.Machine
end

