-- ==== Sys2Proof/Machine/Flags.lean ====
section
/-! DEFINITION. The flags of the FL-716: alert marks (R173, R174), mute causes (R80), monitors (R152 to R156),
and the status byte (R11). -/

namespace Sys2Proof.Machine

open Sys2Proof

/-! ### Alerts (10, section 10.5) -/

/-- An alert source, by its number. -/
abbrev Source := Fin 17

/-- 0, output state change -/
def srcOutput : Source := 0
/-- 1, fault latched -/
def srcFault : Source := 1
/-- 2, warning raised -/
def srcWarning : Source := 2
/-- 3 and 4, input state change -/
def srcInput : InputNo → Source
  | .one => 3
  | .two => 4
/-- 5, path switch -/
def srcSwitch : Source := 5
/-- 6, timebase state change -/
def srcTimebase : Source := 6
/-- 7, break created -/
def srcCreated : Source := 7
/-- 8, break state change -/
def srcBreak : Source := 8
/-- 9, break abandoned -/
def srcAbandoned : Source := 9
/-- 10, advert link failure -/
def srcLink : Source := 10
/-- 11, direction claim -/
def srcClaim : Source := 11
/-- 12, direction changed -/
def srcDirection : Source := 12
/-- 13, presence fault -/
def srcPresence : Source := 13
/-- 14, staged apply done -/
def srcApply : Source := 14
/-- 15, frame error on this port -/
def srcFrameError : Source := 15
/-- 16, output muted -/
def srcMuted : Source := 16

/-- The urgent sources (table of 10.5). -/
def urgent (src : Source) : Bool := src == srcClaim || src == srcDirection || src == srcPresence || src == srcMuted

/-- R173: a source raised on one port sets its pending mark there. -/
def raiseOn (p : Port) (src : Source) (s : State) : State :=
  let pa := portOf s.alerts.ports p
  s.setAlerts { s.alerts with ports := setPortOf s.alerts.ports p { pa with marks := pa.marks.set src true } }

/-- R173: a source raised on both ports. -/
def raise (src : Source) (s : State) : State := raiseOn .b src (raiseOn .a src s)

/-- R174: a pending source is deliverable on a port. -/
def deliverable (s : State) (p : Port) (src : Source) : Bool :=
  let pa := portOf s.alerts.ports p
  pa.marks.get src &&
    (urgent src || (pa.enables.get src && (pa.mask == 0 || (pa.mask == 1 && s.alerts.priority.get src))))

/-- R174: the port's alert line is asserted. -/
def alertLine (s : State) (p : Port) : Bool := (numbers 17).any (deliverable s p)

/-! ### Mute causes (R80) -/

/-- A cause is in the set. -/
def hasCause (cs : CauseSet) : Cause → Bool
  | .command => cs.command
  | .fault => cs.fault
  | .exciter => cs.exciter

/-- The set with a cause put in or taken out. -/
def putCause (cs : CauseSet) (c : Cause) (v : Bool) : CauseSet :=
  match c with
  | .command => { cs with command := v }
  | .fault => { cs with fault := v }
  | .exciter => { cs with exciter := v }

/-- The set is empty. -/
def noCause (cs : CauseSet) : Bool := !(cs.command || cs.fault || cs.exciter)

/-- R80, R88, R91: a Running output enters Muted at once, asserts the mute line and raises sources 0 and 16. -/
def muteAtOnce (s : State) : State :=
  raise srcMuted (raise srcOutput
    (s.setOutput { s.output with state := .muted, muteLine := true, muteAt := none }))

/-- R80: a cause added to the set. -/
def addCause (c : Cause) (s : State) : State :=
  if hasCause s.output.causes c then s
  else
    let s1 := s.setOutput { s.output with causes := putCause s.output.causes c true }
    if s.output.state = .running then muteAtOnce s1 else s1

/-- R80: a cause removed from the set; the output state does not change. -/
def removeCause (c : Cause) (s : State) : State :=
  s.setOutput { s.output with causes := putCause s.output.causes c false }

/-! ### Monitors (09) -/

/-- A monitor; M1 is number 0. -/
abbrev MonNo := Fin 16

/-- M1 input 1 loss, M2 input 2 loss -/
def monInput : InputNo → MonNo
  | .one => 0
  | .two => 1
/-- M3 path disagreement -/
def mon3 : MonNo := 2
/-- M4 programme loss -/
def mon4 : MonNo := 3
/-- M5 late frame -/
def mon5 : MonNo := 4
/-- M6 early frame -/
def mon6 : MonNo := 5
/-- M7 store overflow -/
def mon7 : MonNo := 6
/-- M8 stamp discontinuity -/
def mon8 : MonNo := 7
/-- M9 timing degraded -/
def mon9 : MonNo := 8
/-- M10 timing invalid -/
def mon10 : MonNo := 9
/-- M11 advert underrun -/
def mon11 : MonNo := 10
/-- M12 advert link failure -/
def mon12 : MonNo := 11
/-- M13 break not ready -/
def mon13 : MonNo := 12
/-- M14 break refused -/
def mon14 : MonNo := 13
/-- M15 presence fault -/
def mon15 : MonNo := 14
/-- M16 management frame error -/
def mon16 : MonNo := 15

/-- A monitor's own items. -/
def monRec (s : State) (m : MonNo) : MonitorRec := s.monitors.recs.get m

/-- A monitor's settings in the active profile. -/
def monSetting (s : State) (m : MonNo) : MonitorSetting := s.profile.monitors.get m

/-- The state with a monitor's own items replaced. -/
def setMonRec (m : MonNo) (r : MonitorRec) (s : State) : State :=
  s.setMonitors { s.monitors with recs := s.monitors.recs.set m r }

/-- R156: what keeps the Fault cause posted for one mute-class monitor. -/
def muteHolds (s : State) (m : MonNo) : Bool :=
  (monRec s m).latched || ((monSetting s m).mode == .frame && (monRec s m).condition)

/-- R156: the Fault cause stands while M4 or M10 holds it. -/
def faultHolds (s : State) : Bool := muteHolds s mon4 || muteHolds s mon10

/-- R156: the Fault cause posted or withdrawn as its ground holds or not. -/
def syncFault (s : State) : State := if faultHolds s then addCause .fault s else removeCause .fault s

/-- The timeline sequence while the timeline is Anchored. -/
def timelineSeq (s : State) : Option Seq := s.store.timeline.map (·.lastSeq)

/-- R155: the first-fault record, written when it is empty. -/
def recordFirst (m : MonNo) (s : State) : State :=
  match s.monitors.first with
  | some _ => s
  | none => s.setMonitors { s.monitors with first := some ⟨m, timelineSeq s, s.tb.localTime⟩ }

/-- R154, R155: the latched-fault flag set; when it was clear, source 1 and the first-fault record follow. -/
def setLatched (m : MonNo) (s : State) : State :=
  if (monRec s m).latched then s
  else recordFirst m (raise srcFault (setMonRec m { monRec s m with latched := true } s))

/-- R154: the warning flag set; when it was clear, source 2 follows. -/
def setWarning (m : MonNo) (s : State) : State :=
  if (monRec s m).warning then s
  else raise srcWarning (setMonRec m { monRec s m with warning := true } s)

/-- R154: what the mode does when the condition becomes active. -/
def activate (m : MonNo) (s : State) : State :=
  match (monSetting s m).mode with
  | .latch => setLatched m s
  | .frame => setWarning m s
  | .warn => setWarning m s
  | .off => s

/-- R156: the Fault cause is judged again after an evaluation of M4 or M10. -/
def judgeMute (m : MonNo) (s : State) : State := if m = mon4 ∨ m = mon10 then syncFault s else s

/-- R152: one evaluation of a condition monitor. -/
def evalCondition (m : MonNo) (active : Bool) (s : State) : State :=
  if (monSetting s m).mode = .off then s
  else
    let r := monRec s m
    if active then
      if r.condition then s
      else
        let n := min (r.count + 1) (monSetting s m).persistence
        if (monSetting s m).persistence ≤ n then
          judgeMute m (activate m (setMonRec m { r with count := n, condition := true, events := satInc r.events } s))
        else setMonRec m { r with count := n } s
    else judgeMute m (setMonRec m { r with count := 0, condition := false } s)

/-- R153: one event of an event-type monitor. -/
def evalEvent (m : MonNo) (s : State) : State :=
  if (monSetting s m).mode = .off then s
  else
    let r := monRec s m
    if (monSetting s m).persistence ≤ r.count + 1 then
      activate m (setMonRec m { r with count := 0, condition := false, events := satInc r.events } s)
    else setMonRec m { r with count := r.count + 1, condition := false, events := satInc r.events } s

/-! ### The status byte (R11) -/

/-- R11: bit i of the status byte of a port. -/
def statusBit (s : State) (p : Port) (i : Nat) : Bool :=
  match i with
  | 7 => s.monitors.recs.toList.any (·.latched)
  | 6 => s.monitors.recs.toList.any (·.warning)
  | 5 => s.direction.director == some p
  | 4 => s.direction.claim.isSome && (s.direction.claim == some p || s.direction.director == some p)
  | 3 => alertLine s p
  | 2 => s.tb.state != .tracking
  | 1 => s.output.state != .running
  | 0 => (portOf s.ports p).frameErr
  | _ => false

/-- R11: the status byte of a port. -/
def statusByte (s : State) (p : Port) : Byte :=
  BitVec.ofNat 8 ([7, 6, 5, 4, 3, 2, 1, 0].foldl (fun acc i => acc * 2 + (if statusBit s p i then 1 else 0)) 0)

end Sys2Proof.Machine
end

