-- ==== Sys2Proof/Machine/Memory.lean ====
section
/-! DEFINITION. Advert memory: the pool, the queues of extents, and the reservations (R131, R132, R133). -/

namespace Sys2Proof.Machine

open Sys2Proof

/-- The places an extent holds: reserved, or filled and unread (R131). -/
def extentPlaces : Extent → Nat
  | .reserved n => n
  | .filled packets pos => packets.length - pos

/-- The places a queue holds. -/
def queuePlaces (q : List Extent) : Nat := (q.map extentPlaces).sum

/-- The places held by all extents, reservations of aborted slots among them (R131). -/
def heldPlaces (m : AdvertMemory) : Nat := (m.queues.toList.map queuePlaces).sum + m.detached.toList.sum

/-- R131: the free places of the pool. -/
def freePlaces (m : AdvertMemory) : Nat := Config.poolPlaces - heldPlaces m

/-- The filled and unread packets of an extent. -/
def extentUnread : Extent → Nat
  | .reserved _ => 0
  | .filled packets pos => packets.length - pos

/-- The filled and unread packets of a queue (R112, R135). -/
def queueUnread (q : List Extent) : Nat := (q.map extentUnread).sum

/-- The reserved places of an extent. -/
def extentReserved : Extent → Nat
  | .reserved n => n
  | .filled _ _ => 0

/-- The reserved places of a queue (R135). -/
def queueReserved (q : List Extent) : Nat := (q.map extentReserved).sum

/-- R110, R132: the unread packets of the leading filled extents. -/
def headFilled : List Extent → Nat
  | .filled packets pos :: rest => (packets.length - pos) + headFilled rest
  | .reserved _ :: _ => 0
  | [] => 0

/-- R132: the packet that the head of a queue answers with, and the queue after the read. -/
def readHead : List Extent → Option (ServicePacket × List Extent)
  | .filled packets pos :: rest =>
    match packets[pos]? with
    | some p => some (p, if packets.length ≤ pos + 1 then rest else .filled packets (pos + 1) :: rest)
    | none => none
  | .reserved _ :: _ => none
  | [] => none

/-- R125: the reserved extent of a queue filled with the packets received. -/
def fillReserved (packets : List ServicePacket) : List Extent → List Extent
  | .reserved _ :: rest => .filled packets 0 :: rest
  | e :: rest => e :: fillReserved packets rest
  | [] => []

/-- R127: the reserved extent of a queue released. -/
def dropReserved : List Extent → List Extent
  | .reserved _ :: rest => rest
  | e :: rest => e :: dropReserved rest
  | [] => []

/-- The queue of a record. -/
def queueOf (s : State) (r : Fin 16) : List Extent := s.memory.queues.get r

/-- The state with the queue of a record replaced. -/
def setQueue (r : Fin 16) (q : List Extent) (s : State) : State :=
  s.setMemory { s.memory with queues := s.memory.queues.set r q }

/-- The state with the detached reservation of a slot replaced. -/
def setDetached (k : Fin 2) (n : Nat) (s : State) : State :=
  s.setMemory { s.memory with detached := s.memory.detached.set k n }

/-- The request of a slot. -/
def slotOf (s : State) (k : Fin 2) : Option Request := s.link.slots.get k

/-- The state with a request slot replaced. -/
def setSlotOf (k : Fin 2) (q : Option Request) (s : State) : State :=
  s.setLink { s.link with slots := s.link.slots.set k q }

/-- A Fetch is asked for. -/
def RequestKind.isFetch : RequestKind → Bool
  | .query => false
  | .fetch _ _ => true

/-- The count a request asks for; 0 for a Query. -/
def RequestKind.count : RequestKind → Nat
  | .query => 0
  | .fetch _ n => n

/-- R127, R128: the reservation of a request released, from its record's queue, or from its slot's name once the
request is aborted. -/
def releaseReservation (k : Fin 2) (q : Request) (s : State) : State :=
  if q.kind.isFetch then
    if q.aborted then setDetached k 0 s else setQueue q.record (dropReserved (queueOf s q.record)) s
  else s

/-- A slot made Free, its Fetch's reservation released (R127, R128); an Abort still waiting is dropped with it. -/
def freeRequest (k : Fin 2) (s : State) : State :=
  match slotOf s k with
  | none => s
  | some q => setSlotOf k none (releaseReservation k q s)

/-- R128, R133: a slot at the termination of a record. A reissue that waits for the line is dropped and the slot
becomes Free; otherwise the request is marked aborted, its Abort waits, and its reservation is kept in the
slot's name. -/
def abortRequest (r : Fin 16) (k : Fin 2) (s : State) : State :=
  match slotOf s k with
  | none => s
  | some q =>
    if q.record ≠ r ∨ q.aborted = true then s
    else
      match q.send with
      | .waiting => setSlotOf k none s
      | _ => setDetached k q.kind.count (setSlotOf k (some { q with aborted := true, abortWaiting := true }) s)

/-- R128, R133: the link and advert memory at the termination of a record. -/
def dropRequests (r : Fin 16) (s : State) : State :=
  let s1 := setQueue r [] (abortRequest r 1 (abortRequest r 0 s))
  s1.setLink { s1.link with created := s1.link.created.filter (· != r) }

end Sys2Proof.Machine
end

