-- ==== Sys2Proof/Machine/Breaks.lean ====
section
/-! DEFINITION. The Break Table: records, cues, segment outcomes, and the boundary rule (R94 to R116). -/

namespace Sys2Proof.Machine

open Sys2Proof

/-! ### Records -/

/-- The record of a number; none is Free. -/
def recOf (s : State) (r : Fin 16) : Option BreakRec := s.breaks.records.get r

/-- The state with a record replaced. -/
def setRec (r : Fin 16) (b : Option BreakRec) (s : State) : State :=
  s.setBreaks { s.breaks with records := s.breaks.records.set r b }

/-- A record in Pending, Armed, Fetching or OnAir. -/
def BreakState.live : BreakState → Bool
  | .pending | .armed | .fetching | .onAir => true
  | .done | .abandoned => false

/-- The record number that holds a break id, in whatever state (R97). -/
def findBreak (s : State) (id : BitVec 16) : Option (Fin 16) :=
  (numbers 16).find? fun r => (recOf s r).any (·.id == id)

/-- A new entry of a segment list (R100). -/
def newEntry (segment : BitVec 32) : Entry := ⟨segment, .querying, none, 0, 0, none⟩

/-- A new record in Pending (R100). -/
def newBreak (id : BitVec 16) (origin : Origin) (sIn : Seq) (frames : BitVec 16) (windows : BitVec 8)
    (segments : List (BitVec 32)) : BreakRec where
  id           := id
  origin       := origin
  state        := .pending
  sIn          := sIn
  frames       := frames
  windows      := windows
  entries      := segments.map newEntry
  total        := none
  framesOnAir  := 0
  replaced     := 0
  emitted      := 0
  underruns    := 0
  tails        := 0
  surplus      := 0
  earlyMark    := false
  underrunMark := false
  cause        := none
  termSeq      := none

/-- A record freed (R95, R105, R111): it leaves the terminal order and becomes Free. -/
def freeRecord (r : Fin 16) (s : State) : State :=
  s.setBreaks { s.breaks with
    records := s.breaks.records.set r none
    terminalOrder := s.breaks.terminalOrder.filter (· != r) }

/-- R95: the record that a new break takes: the lowest-numbered Free one, or the oldest of the terminal order. -/
def recordForNew (s : State) : Option (Fin 16) :=
  match (numbers 16).find? fun r => (recOf s r).isNone with
  | some r => some r
  | none => s.breaks.terminalOrder.head?

/-- R100: a new break put into a record: it joins the creation order (R117) and raises source 7. -/
def placeBreak (r : Fin 16) (b : BreakRec) (s : State) : State :=
  let s1 := setRec r (some b) (freeRecord r s)
  raise srcCreated (s1.setLink { s1.link with created := s1.link.created.filter (· != r) ++ [r] })

/-- R112: a record terminates, with the boundary's sequence when a boundary terminates it. -/
def terminate (r : Fin 16) (final : BreakState) (cause : TermCause) (boundary : Option Seq) (s : State) : State :=
  match recOf s r with
  | none => s
  | some b =>
    let b' := { b with
      state := final
      cause := some cause
      termSeq := match boundary with
        | some q => some q
        | none => timelineSeq s
      surplus := if final = .done then b.surplus + queueUnread (queueOf s r) else b.surplus
      entries := b.entries.map fun e => { e with timer := none } }
    let s1 := dropRequests r (setRec r (some b') s)
    let s2 := s1.setBreaks { s1.breaks with terminalOrder := s1.breaks.terminalOrder ++ [r] }
    let s3 := raise srcBreak s2
    if final = .abandoned then raise srcAbandoned s3 else s3

/-! ### Tests of a new or amended break -/

/-- R98: a first sequence is too late. -/
def tooLate (s : State) (sIn : Seq) : Bool :=
  match timelineSeq s with
  | none => false
  | some t => !follows sIn (t + 1)

/-- R99: a record conflicts with a window set and a frame range. -/
def conflictsWith (b : BreakRec) (windows : BitVec 8) (sIn : Seq) (frames : BitVec 16) : Bool :=
  b.state.live && (b.windows &&& windows) != 0 && rangesMeet b.sIn b.frames.toNat sIn frames.toNat

/-- R99: the records that a break conflicts with, one record left out when it is an amend. -/
def conflicting (s : State) (except : Option (Fin 16)) (windows : BitVec 8) (sIn : Seq) (frames : BitVec 16) :
    List (Fin 16) :=
  (numbers 16).filter fun r =>
    except != some r && (recOf s r).any fun b => conflictsWith b windows sIn frames

/-! ### Cues (06, section 6.2) -/

/-- The state with the cue counters changed. -/
def countCue (f : CueCounters → CueCounters) (s : State) : State :=
  s.setBreaks { s.breaks with cues := f s.breaks.cues }

/-- R97: the fields a cue amends in a Feed-origin Pending record. -/
def amendByCue (b : BreakRec) (c : Cue) : BreakRec :=
  { b with sIn := c.sIn, frames := c.frames, windows := c.windows,
           entries := c.segments.map newEntry, total := none }

/-- R97, R99: a cue that conflicts adds one to conflicts and gives one event of M14. -/
def refuseConflict (s : State) : State :=
  evalEvent mon14 (countCue (fun k => { k with conflicts := satInc k.conflicts }) s)

/-- R98: a cue that is too late adds one to too late. -/
def refuseLate (s : State) : State := countCue (fun k => { k with tooLate := satInc k.tooLate }) s

/-- R97: an Announce whose break id is held by a record. -/
def announceHeld (r : Fin 16) (b : BreakRec) (c : Cue) (s : State) : State :=
  if b.sIn = c.sIn ∧ b.frames = c.frames ∧ b.windows = c.windows ∧ b.entries.map (·.segment) = c.segments then
    countCue (fun k => { k with repeats := satInc k.repeats }) s
  else if b.origin = .feed ∧ b.state = .pending then
    if tooLate s c.sIn then refuseLate s
    else if conflicting s (some r) c.windows c.sIn c.frames ≠ [] then refuseConflict s
    else countCue (fun k => { k with amends := satInc k.amends }) (setRec r (some (amendByCue b c)) s)
  else countCue (fun k => { k with mismatches := satInc k.mismatches }) s

/-- R98 to R100: an Announce of a new break. -/
def announceNew (c : Cue) (s : State) : State :=
  if tooLate s c.sIn then refuseLate s
  else if conflicting s none c.windows c.sIn c.frames ≠ [] then refuseConflict s
  else
    match recordForNew s with
    | none => evalEvent mon14 (countCue (fun k => { k with tableFull := satInc k.tableFull }) s)
    | some r => placeBreak r (newBreak c.id .feed c.sIn c.frames c.windows c.segments) s

/-- R103: a Cancel on a live record: Abandoned with cause Cancelled, or the early-return mark when OnAir. -/
def cancelRecord (r : Fin 16) (b : BreakRec) (s : State) : State :=
  if b.state = .onAir then setRec r (some { b with earlyMark := true }) s
  else terminate r .abandoned .cancelled none s

/-- R103: a Cancel cue. -/
def cancelCue (c : Cue) (s : State) : State :=
  match findBreak s c.id with
  | none => countCue (fun k => { k with noSuchBreak := satInc k.noSuchBreak }) s
  | some r =>
    match recOf s r with
    | none => s
    | some b =>
      if b.state.live then cancelRecord r b s
      else countCue (fun k => { k with ignored := satInc k.ignored }) s

/-- R104: a Return cue. -/
def returnCue (c : Cue) (s : State) : State :=
  match findBreak s c.id with
  | none => countCue (fun k => { k with noSuchBreak := satInc k.noSuchBreak }) s
  | some r =>
    match recOf s r with
    | none => s
    | some b =>
      if b.state = .onAir then setRec r (some { b with earlyMark := true }) s
      else countCue (fun k => { k with ignored := satInc k.ignored }) s

/-- R96, R97: an Announce cue for the site's zone. -/
def announceCue (c : Cue) (s : State) : State :=
  match findBreak s c.id with
  | none => announceNew c s
  | some r =>
    match recOf s r with
    | none => s
    | some b => announceHeld r b c s

/-- R96: a valid cue taken by the Break Table. -/
def takeCue (s : State) (c : Cue) : State :=
  if !c.zoneMask.getLsbD s.profile.zone then countCue (fun k => { k with notForZone := satInc k.notForZone }) s
  else if c.kind = 1 then announceCue c s
  else if c.kind = 2 then cancelCue c s
  else returnCue c s

/-! ### Segments and arming (06, section 6.4) -/

/-- R108: the fetching point of a record. -/
def fetchingPoint (s : State) (b : BreakRec) : Seq := b.sIn - BitVec.ofNat 16 s.profile.prefetch

/-- R108: the timeline is Anchored and its sequence is at or after the fetching point. -/
def pastFetchingPoint (s : State) (b : BreakRec) : Bool :=
  match timelineSeq s with
  | none => false
  | some t => atOrAfter t (fetchingPoint s b)

/-- Every entry is Ready (R107). -/
def allReady (b : BreakRec) : Bool := b.entries.all (·.state == .ready)

/-- The sum of the packet counts of all entries (R107). -/
def totalOf (b : BreakRec) : Nat := (b.entries.map fun e => e.count.getD 0).sum

/-- R107: a Pending record whose entries are all Ready becomes Armed, and by R108 Fetching at once when its
fetching point has been reached. -/
def armIfReady (r : Fin 16) (s : State) : State :=
  match recOf s r with
  | none => s
  | some b =>
    if b.state = .pending ∧ allReady b = true then
      let b' := { b with total := some (totalOf b),
                         state := if pastFetchingPoint s b then .fetching else .armed }
      raise srcBreak (setRec r (some b') s)
    else s

/-- An entry of a record, by its position. -/
def entryOf (b : BreakRec) (e : Fin 8) : Option Entry := b.entries[e.val]?

/-- A record with an entry changed. -/
def mapEntry (b : BreakRec) (e : Fin 8) (f : Entry → Entry) : BreakRec :=
  { b with entries := b.entries.modify e.val f }

/-- The state with an entry of a record changed, when there is one. -/
def updateEntry (r : Fin 16) (e : Fin 8) (f : Entry → Entry) (s : State) : State :=
  match recOf s r with
  | none => s
  | some b => setRec r (some (mapEntry b e f)) s

/-- The entry of a record is in a state and holds a segment id. -/
def entryIs (s : State) (r : Fin 16) (e : Fin 8) (st : EntryState) (segment : BitVec 32) : Bool :=
  (recOf s r).any fun b => b.state.live && (entryOf b e).any fun x => x.state == st && x.segment == segment

/-- R106: the Ready outcome with its packet count; discarded unless the entry is Querying and holds the id. -/
def outcomeReady (r : Fin 16) (e : Fin 8) (segment : BitVec 32) (count : Nat) (s : State) : State :=
  if entryIs s r e .querying segment then
    armIfReady r (updateEntry r e (fun x => { x with state := .ready, count := some count }) s)
  else s

/-- R106, R121: the Unknown outcome; the entry's re-query timer is set. -/
def outcomeUnknown (r : Fin 16) (e : Fin 8) (segment : BitVec 32) (s : State) : State :=
  if entryIs s r e .querying segment then
    updateEntry r e (fun x => { x with state := .unknown, timer := some s.profile.requery }) s
  else s

/-- R106: the Failed outcome, taken when the entry is Ready and the record Fetching or OnAir. -/
def outcomeFailed (r : Fin 16) (e : Fin 8) (s : State) : State :=
  match recOf s r with
  | none => s
  | some b =>
    if (b.state = .fetching ∨ b.state = .onAir) ∧ ((entryOf b e).any fun x => x.state == .ready) = true then
      updateEntry r e (fun x => { x with state := .failed }) s
    else s

/-- R106, R107, R121: the Withdrawn outcome in one record. Each entry that holds the id becomes Withdrawn; an
Armed record returns to Pending; the timers of a Pending record's entries are set. -/
def withdrawIn (requery : Nat) (segment : BitVec 32) (b : BreakRec) : BreakRec :=
  let timed := b.state = .pending ∨ b.state = .armed
  { b with
    entries := b.entries.map fun e =>
      if e.segment = segment then
        { e with state := .withdrawn, timer := if timed then some requery else none }
      else e
    state := if b.state = .armed then .pending else b.state
    total := if b.state = .armed then none else b.total }

/-- A record that a Withdraw reaches: live, with an entry that holds the id (R106). -/
def withdrawHits (segment : BitVec 32) (b : BreakRec) : Bool :=
  b.state.live && b.entries.any (·.segment == segment)

/-! ### The boundary rule (R109) -/

/-- A change made to each record that is not Free, in order of record number. -/
def eachRecord (f : Fin 16 → BreakRec → State → State) (s : State) : State :=
  forEach (fun r s => match recOf s r with
    | none => s
    | some b => f r b s) s

/-- Step 1 of R109: OnAir records that a mark or a stopped output ends. -/
def endMarked (q : Seq) (stopped : Bool) (r : Fin 16) (b : BreakRec) (s : State) : State :=
  if b.state = .onAir ∧ (b.underrunMark || b.earlyMark || stopped) = true then
    terminate r .done (if b.underrunMark then .underrunReturn else .returned) (some q) s
  else s

/-- Step 2 of R109: OnAir records whose range has run out. -/
def endCompleted (q : Seq) (r : Fin 16) (b : BreakRec) (s : State) : State :=
  if b.state = .onAir ∧ atOrAfter q (b.sIn + b.frames) = true then terminate r .done .completed (some q) s else s

/-- Step 3 of R109: Armed records at their fetching point. -/
def startFetching (q : Seq) (r : Fin 16) (b : BreakRec) (s : State) : State :=
  if b.state = .armed ∧ atOrAfter q (fetchingPoint s b) = true then
    raise srcBreak (setRec r (some { b with state := .fetching }) s)
  else s

/-- R110: the start evaluation. -/
def evaluateStart (q : Seq) (stopped : Bool) (r : Fin 16) (b : BreakRec) (s : State) : State :=
  if !inRange q b.sIn b.frames.toNat || stopped then terminate r .abandoned .notOnAir (some q) s
  else if b.state = .fetching ∧ min s.profile.startFill (b.total.getD 0) ≤ headFilled (queueOf s r) then
    raise srcBreak (setRec r (some { b with state := .onAir }) s)
  else evalEvent mon13 (terminate r .abandoned .notReady (some q) s)

/-- Step 4 of R109: records whose first sequence is reached. -/
def startDue (q : Seq) (stopped : Bool) (r : Fin 16) (b : BreakRec) (s : State) : State :=
  if (b.state = .pending ∨ b.state = .armed ∨ b.state = .fetching) ∧ atOrAfter q b.sIn = true then
    evaluateStart q stopped r b s
  else s

/-- Step 5 of R109: frames on air. -/
def countOnAir (q : Seq) (r : Fin 16) (b : BreakRec) (s : State) : State :=
  if b.state = .onAir ∧ inRange q b.sIn b.frames.toNat = true then
    setRec r (some { b with framesOnAir := b.framesOnAir + 1 }) s
  else s

/-- R112: a termination sequence not yet fixed becomes the boundary's sequence, before step 6. -/
def fixTermSeq (q : Seq) (r : Fin 16) (b : BreakRec) (s : State) : State :=
  if b.state.live = false ∧ b.termSeq = none then setRec r (some { b with termSeq := some q }) s else s

/-- Step 6 of R109, R111: terminal records retained long enough. -/
def freeRetained (q : Seq) (r : Fin 16) (b : BreakRec) (s : State) : State :=
  match b.termSeq with
  | some t => if b.state.live = false ∧ s.profile.retention ≤ (q - t).toNat then freeRecord r s else s
  | none => s

/-- R109: the six steps at a boundary carrying q; `stopped` says that the output is Idle or Waiting for this
boundary. -/
def boundaryRule (q : Seq) (stopped : Bool) (s : State) : State :=
  let s1 := eachRecord (endMarked q stopped) s
  let s2 := eachRecord (endCompleted q) s1
  let s3 := eachRecord (startFetching q) s2
  let s4 := eachRecord (startDue q stopped) s3
  let s5 := eachRecord (countOnAir q) s4
  let s6 := eachRecord (fixTermSeq q) s5
  eachRecord (freeRetained q) s6

/-- R121: the re-query timers at a boundary that carries a sequence; each present timer decreases by one, and
one that reaches 0 waits for its expiry. -/
def countTimers (s : State) : State :=
  s.setBreaks { s.breaks with
    records := s.breaks.records.map fun b? => b?.map fun b =>
      { b with entries := b.entries.map fun e => { e with timer := e.timer.map (· - 1) } } }

/-- R121: a timer that has reached 0 becomes absent and the entry returns to Querying, by R106. -/
def expireTimer (r : Fin 16) (e : Fin 8) (s : State) : State :=
  match recOf s r with
  | none => s
  | some b =>
    match entryOf b e with
    | none => s
    | some x =>
      if x.timer = some 0 then
        updateEntry r e (fun x => { x with
          timer := none
          state := if b.state = .pending ∧ (x.state = .unknown ∨ x.state = .withdrawn) then .querying else x.state }) s
      else s

end Sys2Proof.Machine
end

