-- ==== Sys2Proof/Machine/Ports.lean ====
section
/-! DEFINITION. The management ports: frame errors, responses, and the tests every command passes (R10, R11, R162). -/

namespace Sys2Proof.Machine

open Sys2Proof

/-- What a command answers: its result, its data, and the state it leaves (R162). -/
structure Answer where
  result : Result
  data   : List Byte
  state  : State
  deriving DecidableEq, Repr

/-- A command done, with no data. -/
def done (s : State) : Answer := ⟨.done, [], s⟩

/-- A command refused: the result alone, and no effect (R162). -/
def refuse (r : Result) (s : State) : Answer := ⟨r, [], s⟩

/-- R10: the response to a taken command becomes the response for the port's next frame, and the frame-error flag
is clear. -/
def respond (p : Port) (code : Byte) (a : Answer) : State :=
  let ps := portOf a.state.ports p
  a.state.setPorts (setPortOf a.state.ports p
    { ps with response := ⟨code, a.result, a.data⟩, frameErr := false })

/-- A command of a code taken on a port. -/
def taken (p : Port) (code : Byte) (a : Answer) : Host.Outcome State Fault Refusal := .next (respond p code a)

/-- R162, test 2: a command that needs direction. -/
def directed (p : Port) (s : State) (a : Answer) : Answer :=
  if s.direction.director = some p then a else refuse .notDirecting s

/-- A command that carries no arguments. -/
def noArguments (args : List Byte) (s : State) (a : Answer) : Answer :=
  if args = [] then a else refuse .badArgument s

/-- R162: a code in the table of commands. -/
def knownCode (code : Byte) : Bool := decide (1 ≤ code.toNat ∧ code.toNat ≤ 0x1C)

/-- R10: the bytes between assertion and release of chip select are a frame error. -/
def isFrameError (bytes : List Byte) : Bool :=
  let len := field bytes 1 1
  decide (bytes.length < 3) || decide (48 < len) || decide (bytes.length < 3 + len)
    || crc8 (bytes.take (2 + len)) != bytes.getD (2 + len) 0
    || (bytes.drop (3 + len)).any (· != 0)

/-- R10: a frame error on a port: one event of M16, source 15 on the port, the frame-error flag, and the response
that names the first byte received. -/
def takeFrameError (p : Port) (bytes : List Byte) (s : State) : State :=
  let s1 := raiseOn p srcFrameError (evalEvent mon16 s)
  let ps := portOf s1.ports p
  s1.setPorts (setPortOf s1.ports p
    { ps with response := ⟨bytes.getD 0 0, .frameError, []⟩, frameErr := true })

/-- FRAME_ERROR (R10). Bytes that are no frame error are no such event (log 4). -/
def execFrameError (p : Port) (bytes : List Byte) (s : State) : Host.Outcome State Fault Refusal :=
  .next (if isFrameError bytes then takeFrameError p bytes s else s)

/-- STATUS_BYTE_FORMED (R11): the status byte goes out; nothing else changes (log 32). -/
def execStatusByteFormed (p : Port) (s : State) : Host.Outcome State Fault Refusal :=
  .next (s.setPorts (setPortOf s.ports p { portOf s.ports p with statusOut := some (statusByte s p) }))

/-- UNKNOWN_COMMAND (R162): a code outside the table answers BadArgument. A code of the table is no such event
(log 36). -/
def execUnknownCommand (p : Port) (code : Byte) (_args : List Byte) (s : State) : Host.Outcome State Fault Refusal :=
  if knownCode code then .next s else taken p code (refuse .badArgument s)

/-- NO_OPERATION (R163). -/
def execNoOperation (p : Port) (args : List Byte) (s : State) : Host.Outcome State Fault Refusal :=
  taken p 0x01 (noArguments args s (done s))

/-! ### Alerts (R174 to R176) -/

/-- A source number of one byte; none above 16. -/
def sourceOf (b : Byte) : Option Source := if h : b.toNat < 17 then some ⟨b.toNat, h⟩ else none

/-- A flag of one byte, 0 or 1. -/
def flagOf (b : Byte) : Option Bool := if b = 0 then some false else if b = 1 then some true else none

/-- The state with a port's alert items replaced. -/
def setPortAlerts (p : Port) (v : PortAlerts) (s : State) : State :=
  s.setAlerts { s.alerts with ports := setPortOf s.alerts.ports p v }

/-- SET_ALERT_ROUTING (R176). -/
def execSetAlertRouting (p : Port) (args : List Byte) (s : State) : Host.Outcome State Fault Refusal :=
  taken p 0x18 <| match args with
    | [src, en] =>
      match sourceOf src, flagOf en with
      | some i, some on =>
        if urgent i && !on then refuse .badArgument s
        else
          let pa := portOf s.alerts.ports p
          done (setPortAlerts p { pa with enables := pa.enables.set i on } s)
      | _, _ => refuse .badArgument s
    | _ => refuse .badArgument s

/-- SET_ALERT_MASK (R176). -/
def execSetAlertMask (p : Port) (args : List Byte) (s : State) : Host.Outcome State Fault Refusal :=
  taken p 0x19 <| match args with
    | [m] =>
      if h : m.toNat < 3 then
        done (setPortAlerts p { portOf s.alerts.ports p with mask := ⟨m.toNat, h⟩ } s)
      else refuse .badArgument s
    | _ => refuse .badArgument s

/-- SET_ALERT_PRIORITY (R176). -/
def execSetAlertPriority (p : Port) (args : List Byte) (s : State) : Host.Outcome State Fault Refusal :=
  taken p 0x1B <| directed p s <| match args with
    | [src, level] =>
      match sourceOf src, flagOf level with
      | some i, some one => done (s.setAlerts { s.alerts with priority := s.alerts.priority.set i one })
      | _, _ => refuse .badArgument s
    | _ => refuse .badArgument s

/-- R175: the deliverable source of highest priority level, then of lowest number. -/
def chooseAlert (s : State) (p : Port) : Option Source :=
  let ready := (numbers 17).filter (deliverable s p)
  (ready.find? fun i => s.alerts.priority.get i).or ready.head?

/-- TAKE_ALERT (R175). -/
def execTakeAlert (p : Port) (args : List Byte) (s : State) : Host.Outcome State Fault Refusal :=
  taken p 0x1A <| noArguments args s <|
    match chooseAlert s p with
    | none => ⟨.none, [], s⟩
    | some i =>
      let pa := portOf s.alerts.ports p
      ⟨.done, byte1 i.val, setPortAlerts p { pa with marks := pa.marks.set i false } s⟩

/-! ### Clear Faults (R159) -/

/-- Steps 1 and 2 of R159: a monitor's flags cleared; a latch whose condition is active stays. -/
def clearFlags (r : MonitorRec) : MonitorRec := { r with warning := false, latched := r.latched && r.condition }

/-- A set of monitors as a bitmap of 3 bytes; bit i names the monitor numbered i here (R162). -/
def monitorBits (f : MonNo → Bool) : Nat := ((numbers 16).map fun m => if f m then 2 ^ m.val else 0).sum

/-- R159: the flags cleared, the Fault cause judged, the first-fault record emptied. -/
def clearFaults (s : State) : State :=
  let s1 := s.setMonitors { s.monitors with recs := s.monitors.recs.map clearFlags }
  let s2 := if faultHolds s1 then s1 else removeCause .fault s1
  s2.setMonitors { s2.monitors with first := none }

/-- CLEAR_FAULTS (R159). -/
def execClearFaults (p : Port) (args : List Byte) (s : State) : Host.Outcome State Fault Refusal :=
  taken p 0x16 <| directed p s <| noArguments args s <|
    let s' := clearFaults s
    ⟨.done, beBytes 3 (monitorBits fun m => (monRec s' m).latched), s'⟩

end Sys2Proof.Machine
end

