-- ==== Sys2Proof/Machine/Receivers.lean ====
section
/-! DEFINITION. The receivers of the feed lines, the time-of-day line and the incoming advert line: what the bytes
received so far amount to (R6, R8, R9; log 5). -/

namespace Sys2Proof.Machine

open Sys2Proof

/-- What the bytes received on a line amount to: an event still to come, with the bytes the receiver keeps; an event
that their last byte completes, with the bytes it keeps then; or an event that an earlier byte had completed. -/
inductive Arrival (α : Type)
  | more (kept : List Byte)
  | event (e : α) (kept : List Byte)
  | past
  deriving DecidableEq, Repr

/-- A line's command taken: the bytes the receiver keeps are kept, and an event of the command's kind has its effect. An
event of another kind, or one that an earlier byte completed, is not this command's (log 4). -/
def onArrival {α : Type} (keep : List Byte → State → State) (take : α → Option (State → State)) (a : Arrival α)
    (s : State) : State :=
  match a with
  | .more kept => keep kept s
  | .event e kept =>
    match take e with
    | some f => f (keep kept s)
    | none => s
  | .past => s

/-! ### The feed lines (R6) -/

/-- R6: the hunt for the sync word C3 5E hex: the stream from the first byte that may begin one. -/
def hunt : List Byte → List Byte
  | [] => []
  | b :: rest => if b = 0xC3 ∧ (rest.head?.getD 0x5E) = 0x5E then b :: rest else hunt rest

/-- What completes on a feed line: a header, good or not, or the frame of an accepted header. -/
inductive FeedEvent
  | accepted (header : List Byte)
  | rejected (cause : BadCause)
  | whole (frame : InProgress) (rest : List Byte) (body : FrameBody)
  deriving DecidableEq, Repr

/-- R6: bytes on an input that has no frame past its header. After a header that is not good, hunting resumes with its
third byte. -/
def headerArrival (p : Profile) (bytes : List Byte) : Arrival FeedEvent :=
  let found := hunt bytes
  if found.length < 20 then .more found
  else if 20 < found.length then .past
  else
    match headerFault p found with
    | none => .event (.accepted found) []
    | some cause => .event (.rejected cause) (hunt (found.drop 2))

/-- R6: the length of `count` cue records at the front of a stream; none while a segment count is still to come. -/
def cuesLength : (count : Nat) → List Byte → Option Nat
  | 0, _ => some 0
  | k + 1, bytes =>
    if bytes.length < 2 then none
    else (cuesLength k (bytes.drop (12 + 4 * field bytes 1 1))).map (12 + 4 * field bytes 1 1 + ·)

/-- R6: what follows an accepted header, its cue records, packets and frame check, is all there. -/
def bodyReached (header bytes : List Byte) : Bool :=
  (cuesLength (field header 17 1) bytes).any fun n => decide (n + 188 * field header 15 2 + 4 ≤ bytes.length)

/-- R6: bytes that follow the accepted header of a frame. -/
def bodyArrival (f : InProgress) (bytes : List Byte) : Arrival FeedEvent :=
  match frameBody f.header bytes with
  | some body => .event (.whole f bytes body) []
  | none => if bodyReached f.header bytes then .past else .more bytes

/-! ### The time-of-day line (R8) -/

/-- R8: the hunt for the marker A5 hex. -/
def huntMarker (bytes : List Byte) : List Byte := bytes.dropWhile (· != 0xA5)

/-- R8: bytes on the time-of-day line. The receiver hunts again from the byte after byte 7, or, when the check fails,
from the byte after the marker. -/
def todArrival (bytes : List Byte) : Arrival (List Byte) :=
  let found := huntMarker bytes
  if found.length < 8 then .more found
  else if 8 < found.length then .past
  else .event found (if todCheck found then [] else huntMarker (found.drop 1))

/-! ### The incoming advert line (R9) -/

/-- R9: bytes on the incoming advert line: kind, body length, as many body bytes, and four check bytes, whatever the
kind. -/
def messageArrival (bytes : List Byte) : Arrival RawMessage :=
  let n := field bytes 1 3
  if bytes.length < n + 8 then .more bytes
  else if n + 8 < bytes.length then .past
  else .event ⟨bytes.getD 0 0, (bytes.drop 4).take n, BitVec.ofNat 32 (field bytes (n + 4) 4)⟩ []

/-- R9: the message with these bytes completes: the bytes kept of the line are its first bytes, and the rest of it
arrives. -/
def completes (s : State) (message : List Byte) : Bool := s.lines.advert.isPrefixOf message

/-! ### The bytes kept of each line -/

/-- The bytes kept of a feed line. -/
def keepFeed (i : InputNo) (kept : List Byte) (s : State) : State :=
  s.setLines { s.lines with feeds := setInputOf s.lines.feeds i kept }

/-- The bytes kept of the time-of-day line. -/
def keepTod (kept : List Byte) (s : State) : State := s.setLines { s.lines with tod := kept }

/-- The bytes kept of the incoming advert line. -/
def keepAdvert (kept : List Byte) (s : State) : State := s.setLines { s.lines with advert := kept }

end Sys2Proof.Machine
end

