-- ==== Sys2Proof/Machine/Store.lean ====
section
/-! DEFINITION. The Frame Store and the release timeline (R55 to R74). -/

namespace Sys2Proof.Machine

open Sys2Proof

/-! ### Slots -/

/-- A slot of the store. -/
def slotAt (s : State) (i : Fin 64) : Slot := s.store.slots.get i

/-- The state with a slot replaced. -/
def setSlot (i : Fin 64) (v : Slot) (s : State) : State :=
  s.setStore { s.store with slots := s.store.slots.set i v }

/-- A slot made Free. -/
def freeSlot (i : Fin 64) (s : State) : State := setSlot i .free s

/-- The fields of a slot that is not Free. -/
def Slot.info? : Slot → Option SlotInfo
  | .free => none
  | .filling i _ => some i
  | .held i _ _ => some i
  | .emitting i _ _ => some i

/-- A slot in Held or Emitting that carries a sequence. -/
def Slot.carries (q : Seq) : Slot → Bool
  | .held i _ _ => i.seq == q
  | .emitting i _ _ => i.seq == q
  | _ => false

/-- The frame check value of a slot in Held or Emitting. -/
def Slot.check? : Slot → Option (BitVec 32)
  | .held _ c _ => some c
  | .emitting _ c _ => some c
  | _ => none

/-- The slot in Held or Emitting that carries a sequence. -/
def carrier (s : State) (q : Seq) : Option (Fin 64) := (numbers 64).find? fun i => (slotAt s i).carries q

/-- The slot in Held that carries a sequence. -/
def heldOf (s : State) (q : Seq) : Option (Fin 64) :=
  (numbers 64).find? fun i => match slotAt s i with
    | .held info _ _ => info.seq == q
    | _ => false

/-- R56: the lowest-numbered Free slot. -/
def lowestFree (s : State) : Option (Fin 64) := (numbers 64).find? fun i => slotAt s i == .free

/-- Some slot in Filling carries a sequence. -/
def someFilling (s : State) (q : Seq) : Bool :=
  (numbers 64).any fun i => match slotAt s i with
    | .filling info _ => info.seq == q
    | _ => false

/-- The Filling slot of an input's frame. -/
def fillingOf (s : State) (input : InputNo) (q : Seq) : Option (Fin 64) :=
  (numbers 64).find? fun i => match slotAt s i with
    | .filling info _ => info.source == input && info.seq == q
    | _ => false

/-- The store's own items changed. -/
def onStore (f : FrameStore → FrameStore) (s : State) : State := s.setStore (f s.store)

/-- The timeline replaced. -/
def setTimeline (t : Option Timeline) (s : State) : State := onStore (fun st => { st with timeline := t }) s

/-! ### Admission (R57, R58) -/

/-- R58: the offset sum D_net + T_trim − L_x of a profile. -/
def offsetSum (p : Profile) : Int := (p.netDelay : Int) + p.trim - p.latency

/-- R58: the release instant of a stamp. -/
def releaseOf (p : Profile) (stamp : NetTime) : NetTime := addTicks stamp (offsetSum p)

/-- R57: an offered header admitted or refused. -/
def takeOffered (q : Seq) (stamp : NetTime) (input : InputNo) (s : State) : Fate × State :=
  if (carrier s q).isSome then (.copy, s)
  else
    match lowestFree s with
    | none => (.refused, evalEvent mon7 s)
    | some i => (.stored, setSlot i (.filling ⟨q, stamp, input, releaseOf s.profile stamp⟩ (someFilling s q)) s)

/-! ### The timeline (R63, R64) -/

/-- R63: the gaps up to a sequence: the counts of the entries at or before it that follow the anchor. -/
def gapsUpTo (tl : Timeline) (q : Seq) : Nat :=
  ((tl.gaps.filter fun g => atOrAfter q g.seq && follows g.seq tl.anchorSeq).map (·.count)).sum

/-- R63: the boundary time the timeline gives a sequence. -/
def boundaryTime (tf : Nat) (tl : Timeline) (q : Seq) : NetTime :=
  addTicks tl.anchorTime ((seqDiff q tl.anchorSeq + gapsUpTo tl q) * tf)

/-- R63: the number j of a grid time anchor time + j × T_f. -/
def gridIndex (tf : Nat) (tl : Timeline) (t : NetTime) : Int := timeDiff t tl.anchorTime / (tf : Int)

/-- R63: the sequence that the anchor gives the next boundary: anchor sequence + j. -/
def anchorGives (tf : Nat) (tl : Timeline) : Seq :=
  tl.anchorSeq + BitVec.ofInt 16 (gridIndex tf tl tl.nextBoundary)

/-- The gap-list entry at a sequence. -/
def gapAt (tl : Timeline) (q : Seq) : Option GapEntry := tl.gaps.find? (·.seq == q)

/-- R63: what the next boundary carries, a sequence or none for a gap boundary, and the timeline after it is fixed.
The three steps of the rule, in order. -/
def fixCarry (tf : Nat) (tl : Timeline) : Option Seq × Timeline :=
  match tl.runningGaps with
  | n + 1 => (none, { tl with runningGaps := n })
  | 0 =>
    let q := anchorGives tf tl
    match gapAt tl q with
    | some g =>
      (none, { tl with
        gaps := tl.gaps.filter (·.seq != q)
        anchorSeq := q
        anchorTime := addTicks tl.nextBoundary (g.count * tf)
        runningGaps := g.count - 1 })
    | none => (some q, { tl with lastSeq := q })

/-- R64: the grid number of the earliest grid time that is not earlier than `now`. -/
def firstGridIndex (tf : Nat) (anchorTime now : NetTime) : Int := -(timeDiff anchorTime now / (tf : Int))

/-- R64: a timeline anchored to a sequence and a time, its next boundary and timeline sequence set from local time. -/
def anchorTo (tf : Nat) (now : NetTime) (q : Seq) (t : NetTime) : Timeline :=
  let j := firstGridIndex tf t now
  ⟨q, t, addTicks t (j * tf), q + BitVec.ofInt 16 (j - 1), 0, []⟩

/-- R61: a gap entry put into the list, which stays ordered by sequence from the anchor on; the count joins an
entry that stands at the sequence (log 29). -/
def insertGap (anchor q : Seq) (m : Nat) : List GapEntry → List GapEntry
  | [] => [⟨q, m⟩]
  | g :: rest =>
    if g.seq = q then ⟨q, g.count + m⟩ :: rest
    else if (q - anchor).toNat < (g.seq - anchor).toNat then ⟨q, m⟩ :: g :: rest
    else g :: insertGap anchor q m rest

/-! ### Completion (R59 to R62) -/

/-- A copy that is no longer held, or whose check value equals the held one, is a duplicate (R59). -/
def countDuplicate (s : State) : State := onStore (fun st => { st with duplicates := satInc st.duplicates }) s

/-- R59: a copy compared with the held frame's check value. -/
def compareCopy (heldCheck check : BitVec 32) (s : State) : State :=
  if heldCheck = check then countDuplicate s else evalEvent mon3 s

/-- R62: a frame becomes Held; it anchors an Absent timeline (R64). -/
def becomeHeld (i : Fin 64) (info : SlotInfo) (check : BitVec 32) (packets : List ServicePacket) (s : State) : State :=
  let s1 := onStore (fun st => { st with framesHeld := satInc st.framesHeld }) (setSlot i (.held info check packets) s)
  match s.store.timeline with
  | some _ => s1
  | none => setTimeline (some (anchorTo s.profile.frameInterval s.tb.localTime info.seq info.release)) s1

/-- R61: the sequence follows that of every Held and Emitting slot. -/
def followsAll (s : State) (q : Seq) : Bool :=
  (numbers 64).all fun i => match slotAt s i with
    | .held info _ _ => follows q info.seq
    | .emitting info _ _ => follows q info.seq
    | _ => true

/-- R61: the continuity check of a frame in slot i. That a frame whole intervals later is freed where its sequence neither
follows nor is followed, 32,768 from a Held or Emitting one, is the model's choice (log 43). -/
def continuityCheck (i : Fin 64) (info : SlotInfo) (check : BitVec 32) (packets : List ServicePacket) (s : State) :
    State :=
  match s.store.timeline with
  | none => becomeHeld i info check packets s
  | some tl =>
    let tf : Int := s.profile.frameInterval
    let d := timeDiff info.release (boundaryTime s.profile.frameInterval tl info.seq)
    if d = 0 then becomeHeld i info check packets s
    else if 0 < d ∧ d % tf = 0 ∧ followsAll s info.seq = true then
      evalEvent mon8
        (setTimeline (some { tl with gaps := insertGap tl.anchorSeq info.seq (d / tf).toNat tl.gaps })
          (becomeHeld i info check packets s))
    else evalEvent mon8 (freeSlot i s)

/-- R60: the early limit, 60 × T_f. -/
def earlyLimit (p : Profile) : Int := 60 * (p.frameInterval : Int)

/-- R60: the margin checks of a frame in slot i. -/
def marginCheck (i : Fin 64) (info : SlotInfo) (check : BitVec 32) (packets : List ServicePacket) (s : State) : State :=
  let margin := timeDiff info.release s.tb.localTime
  if margin < s.profile.guardMargin then evalEvent mon5 (freeSlot i s)
  else if earlyLimit s.profile < margin then evalEvent mon6 (freeSlot i s)
  else continuityCheck i info check packets s

/-- The frame check value of the Held or Emitting slot that carries a sequence. -/
def heldCheck (s : State) (q : Seq) : Option (BitVec 32) := (carrier s q).bind fun i => (slotAt s i).check?

/-- R59: the good completion of an offered frame. A frame whose slot was freed by a planned drop finds none, and
the store does nothing with it (R71); a frame refused at its header is not handled further (R57; log 26). -/
def completeGood (fate : Fate) (input : InputNo) (q : Seq) (check : BitVec 32) (packets : List ServicePacket)
    (s : State) : State :=
  match fate with
  | .notOffered => s
  | .refused => s
  | .copy =>
    match heldCheck s q with
    | some c => compareCopy c check s
    | none => countDuplicate s
  | .stored =>
    match fillingOf s input q with
    | none => s
    | some i =>
      match heldCheck s q with
      | some c => freeSlot i (compareCopy c check s)
      | none =>
        match (slotAt s i).info? with
        | none => s
        | some info => marginCheck i info check packets s

/-- R59: the bad completion of an offered frame. -/
def completeBad (fate : Fate) (input : InputNo) (q : Seq) (s : State) : State :=
  match fate with
  | .stored =>
    match fillingOf s input q with
    | none => s
    | some i => freeSlot i s
  | _ => s

/-! ### Re-check and re-anchoring (R67, R73) -/

/-- R67: a Held slot re-checked against local time. -/
def recheckSlot (i : Fin 64) (s : State) : State :=
  match slotAt s i with
  | .held info _ _ =>
    let margin := timeDiff info.release s.tb.localTime
    if margin < s.profile.guardMargin then evalEvent mon5 (freeSlot i s)
    else if earlyLimit s.profile < margin then evalEvent mon6 (freeSlot i s)
    else s
  | _ => s

/-- R63: a time falls on one of the gap boundaries that are still running. -/
def onRunningGap (tl : Timeline) (t : NetTime) : Bool :=
  decide (0 < tl.runningGaps ∧ 0 ≤ timeDiff t tl.nextBoundary ∧ timeDiff t tl.anchorTime < 0)

/-- R67, R73: a Held slot off the timeline is freed, with one event of M8. -/
def sweepSlot (i : Fin 64) (s : State) : State :=
  match s.store.timeline, slotAt s i with
  | some tl, .held info _ _ =>
    if info.release = boundaryTime s.profile.frameInterval tl info.seq ∧ onRunningGap tl info.release = false then s
    else evalEvent mon8 (freeSlot i s)
  | _, _ => s

/-- R73: every Held slot off the timeline is freed (log 11). -/
def sweep (s : State) : State := forEach sweepSlot s

/-- R67: the Held frame with the earliest release instant; of two with the same one, that of the lower-numbered slot, the
model's choice (log 40). -/
def earliestHeld (s : State) : Option SlotInfo :=
  (numbers 64).foldl (fun (best : Option SlotInfo) i =>
    match slotAt s i, best with
    | .held info _ _, none => some info
    | .held info _ _, some b => if timeDiff info.release b.release < 0 then some info else some b
    | _, _ => best) none

/-- R67: the timeline re-anchored to the earliest remaining Held frame, or Absent when none remains. -/
def reanchor (s : State) : State :=
  match earliestHeld s with
  | none => setTimeline none s
  | some info =>
    sweep (setTimeline (some (anchorTo s.profile.frameInterval s.tb.localTime info.seq info.release)) s)

/-- R67: every Held slot re-checked, in order of slot number, the model's choice (log 40), then the timeline
re-anchored. -/
def recheckAndReanchor (s : State) : State := reanchor (forEach recheckSlot s)

/-! ### Applies (R68 to R72) -/

/-- The fields of Held and Filling slots changed. -/
def Slot.mapWaiting (f : SlotInfo → SlotInfo) : Slot → Slot
  | .filling i sh => .filling (f i) sh
  | .held i c p => .held (f i) c p
  | other => other

/-- The release instants of the Held and Filling slots that a test names moved by Δ. -/
def moveReleases (delta : Int) (which : SlotInfo → Bool) (s : State) : State :=
  onStore (fun st => { st with
    slots := st.slots.map (Slot.mapWaiting fun i =>
      if which i then { i with release := addTicks i.release delta } else i) }) s

/-- R68: an Apply of T_f or N_p frees every slot and makes the timeline Absent. -/
def formatChange (s : State) : State :=
  onStore (fun st => { st with slots := Tab.const 64 .free, timeline := none }) s

/-- R70: a change of +k × T_f at the boundary of X: that boundary becomes the first of k gap boundaries. The
running gaps stand at k until the boundary itself is fixed as one of them (R63, step 1). -/
def insertGaps (k : Nat) (x : Seq) (tl : Timeline) (delta : Int) (s : State) : State :=
  let tf := s.profile.frameInterval
  let tl' := { tl with anchorSeq := x, anchorTime := addTicks tl.nextBoundary (k * tf), runningGaps := k }
  sweep (setTimeline (some tl') (moveReleases delta (fun i => atOrAfter i.seq x) s))

/-- R71: a Held or Filling slot of a dropped sequence is freed as a planned drop. -/
def dropSlot (x : Seq) (k : Nat) (i : Fin 64) (s : State) : State :=
  let dropped (info : SlotInfo) : Bool := inRange info.seq x k
  let count (s : State) : State := onStore (fun st => { st with plannedDrops := satInc st.plannedDrops }) s
  match slotAt s i with
  | .held info _ _ => if dropped info then count (freeSlot i s) else s
  | .filling info _ => if dropped info then count (freeSlot i s) else s
  | _ => s

/-- R71: a change of −k × T_f at the boundary of X: the sequences X to X + k − 1 are dropped. With gaps among
the dropped places the boundary is the first of their gap boundaries. -/
def dropFrames (k : Nat) (x : Seq) (tl : Timeline) (delta : Int) (s : State) : State :=
  let tf := s.profile.frameInterval
  let leaves (g : GapEntry) : Bool := inRange g.seq (x + 1) k
  let g := ((tl.gaps.filter leaves).map (·.count)).sum
  let last := x + BitVec.ofNat 16 k
  let tl' := { tl with
    gaps := tl.gaps.filter fun e => !leaves e
    anchorSeq := last
    anchorTime := addTicks tl.nextBoundary (g * tf)
    runningGaps := g }
  let s1 := forEach (dropSlot x k) s
  sweep (setTimeline (some tl') (moveReleases delta (fun i => atOrAfter i.seq last) s1))

/-- R72: a change that is not a whole multiple of T_f: every release instant moves, then re-check and re-anchor. -/
def offsetRecheck (delta : Int) (s : State) : State := recheckAndReanchor (moveReleases delta (fun _ => true) s)

/-- R68 to R72: the store at an Apply, from the old profile, with the sequence of the boundary where it takes
effect (none while the timeline is Absent). -/
def storeApply (old : Profile) (x : Option Seq) (s : State) : State :=
  let new := s.profile
  let delta := offsetSum new - offsetSum old
  let tf : Int := new.frameInterval
  if new.frameInterval ≠ old.frameInterval ∨ new.packets ≠ old.packets then formatChange s
  else
    match s.store.timeline, x with
    | some tl, some q =>
      if delta = 0 then s
      else if delta % tf = 0 then
        if 0 < delta then insertGaps (delta / tf).toNat q tl delta s
        else dropFrames (-delta / tf).toNat q tl delta s
      else offsetRecheck delta s
    | _, _ =>
      onStore (fun st => { st with slots := st.slots.map fun
        | .filling i sh => .filling { i with release := addTicks i.release delta } sh
        | other => other }) s

/-! ### At a boundary (R65, R66) -/

/-- R65: a Held slot taken by the output becomes Emitting. -/
def takeHeld (i : Fin 64) (s : State) : State :=
  match slotAt s i with
  | .held info c p => setSlot i (.emitting info c p) s
  | _ => s

/-- R66: an Emitting slot that the output returns is freed. -/
def returnSlot (slot : Option (Fin 64)) (s : State) : State :=
  match slot with
  | none => s
  | some i => freeSlot i s

/-- R65: a Held slot whose release instant is earlier than the boundary time is freed, counted as freed unsent when
the output is Idle or Waiting for the boundary, as Late otherwise. That a frame Held behind a gap entry at a passed sequence
is freed by this test alone, and not at the next boundary as R62 has it, is the model's choice (log 44). -/
def freePast (b : NetTime) (stopped : Bool) (i : Fin 64) (s : State) : State :=
  match slotAt s i with
  | .held info _ _ =>
    if timeDiff info.release b < 0 then
      if stopped then onStore (fun st => { st with freedUnsent := satInc st.freedUnsent }) (freeSlot i s)
      else evalEvent mon5 (freeSlot i s)
    else s
  | _ => s

/-- R65: the next boundary time advances by T_f. -/
def advanceBoundary (s : State) : State :=
  match s.store.timeline with
  | none => s
  | some tl => setTimeline (some { tl with nextBoundary := addTicks tl.nextBoundary s.profile.frameInterval }) s

/-- R65: a boundary is due: local time has reached the next boundary time. -/
def boundaryDue (s : State) : Bool := s.store.timeline.any fun tl => reached s.tb.localTime tl.nextBoundary

end Sys2Proof.Machine
end

