-- ==== Sys2Proof/Machine/Feed.lean ====
section
/-! DEFINITION. Feed intake and path protection (R33 to R53), and the meanings of the feed lines' commands. -/

namespace Sys2Proof.Machine

open Sys2Proof

/-- The own items of an input. -/
def feedOf (s : State) (i : InputNo) : FeedInput := inputOf s.feeds i

/-- The state with an input replaced. -/
def setFeed (i : InputNo) (f : FeedInput) (s : State) : State := s.setFeeds (setInputOf s.feeds i f)

/-- Four frame intervals, in ticks (R34, R35). -/
def silenceTicks (p : Profile) : Int := 4 * (p.frameInterval : Int)

/-! ### Acquisition (03, section 3.2) -/

/-- Frames from an input in Locked or Impaired are trusted. -/
def AcqState.trusted : AcqState → Bool
  | .locked => true
  | .impaired => true
  | .searching => false
  | .verifying => false
  | .lost => false

/-- An input in a state with both runs at 0. -/
def FeedInput.enter (a : AcqState) (f : FeedInput) : FeedInput := { f with acq := a, goodRun := 0, badRun := 0 }

/-- R36 to R40: the acquisition state machine at a good frame, with the verify count V. -/
def goodFrame (v : Nat) (f : FeedInput) : FeedInput :=
  let n := satInc f.goodRun
  match f.acq with
  | .searching => if v ≤ 1 then f.enter .locked else { f with acq := .verifying, goodRun := 1, badRun := 0 }
  | .lost => if v ≤ 1 then f.enter .locked else { f with acq := .verifying, goodRun := 1, badRun := 0 }
  | .verifying => if v ≤ n.toNat then f.enter .locked else { f with goodRun := n }
  | .locked => f
  | .impaired => if v ≤ n.toNat then f.enter .locked else { f with goodRun := n, badRun := 0 }

/-- R36 to R40: the acquisition state machine at a bad frame, with the loss count L. -/
def badFrame (l : Nat) (f : FeedInput) : FeedInput :=
  let n := satInc f.badRun
  match f.acq with
  | .searching => f.enter .searching
  | .lost => f.enter .lost
  | .verifying => f.enter .searching
  | .locked => if l ≤ 1 then f.enter .lost else { f with acq := .impaired, goodRun := 0, badRun := 1 }
  | .impaired => if l ≤ n.toNat then f.enter .lost else { f with goodRun := 0, badRun := n }

/-! ### Path Merge (03, section 3.3) -/

/-- R47 to R49: a path switch. -/
def switchPath (input : InputNo) (s : State) : State :=
  raise srcSwitch (s.setMerge { active := input, revert := none, switches := satInc s.merge.switches })

/-- The state with the revert count replaced. -/
def setRevert (c : Option Counter) (s : State) : State := s.setMerge { s.merge with revert := c }

/-- R47: a frame event of an input, which took it from one state to another, calls for a protection switch. -/
def protectionDue (s : State) (i : InputNo) (before after : AcqState) : Bool :=
  let other := (feedOf s (otherInput i)).acq
  before != after &&
    if i = s.merge.active then (after == .lost || after == .searching) && other == .locked
    else after == .locked && (other == .lost || other == .searching)

/-- R48: the revert count after a frame event of the preferred input that is not active; none when there is none. -/
def countRevert (revert : Option Counter) (before after : AcqState) (good : Bool) : Option Counter :=
  if after ≠ .locked then none
  else if before ≠ .locked then some 0
  else if good then revert.map satInc
  else revert

/-- R48: the proving of the preferred input while the other input is active. -/
def proveRevert (i : InputNo) (before after : AcqState) (good : Bool) (s : State) : State :=
  if s.profile.revertive && i == s.profile.preferred && s.profile.preferred != s.merge.active then
    match countRevert s.merge.revert before after good with
    | none => setRevert none s
    | some c =>
      if s.profile.holdOff ≤ c.toNat then switchPath s.profile.preferred s else setRevert (some c) s
  else s

/-- R47, R48: Path Merge at a frame event, in Select. -/
def mergeEvent (i : InputNo) (before after : AcqState) (good : Bool) (s : State) : State :=
  if s.profile.pathMode = .merge then s
  else if protectionDue s i before after then switchPath (otherInput s.merge.active) s
  else proveRevert i before after good s

/-- R41: the source of an input, raised when its state has changed. -/
def raiseIfChanged (i : InputNo) (before after : AcqState) (s : State) : State :=
  if before = after then s else raise (srcInput i) s

/-- R36 to R41, R47, R48, R52: a frame event of an input. -/
def frameEvent (i : InputNo) (good : Bool) (s : State) : State :=
  let f := feedOf s i
  let f' := if good then goodFrame s.profile.verify f else badFrame s.profile.loss f
  let s1 := raiseIfChanged i f.acq f'.acq (setFeed i f' s)
  mergeEvent i f.acq f'.acq good (evalCondition (monInput i) (f'.acq == .lost) s1)

/-! ### Headers (R6, R44, R57) -/

/-- R44: the offer of a header of an input. -/
def offered (s : State) (i : InputNo) : Bool :=
  (feedOf s i).acq.trusted && (s.profile.pathMode == .merge || s.merge.active == i)

/-- R6, R44, R57: a header accepted on an input. -/
def acceptHeader (i : InputNo) (h : List Byte) (s : State) : State :=
  let r := if offered s i then takeOffered (headerSeq h) (headerStamp h) i s else (.notOffered, s)
  setFeed i { feedOf r.2 i with inProgress := some ⟨h, r.1⟩ } r.2

/-- R6: what the bytes that arrive on a feed line amount to, with those received before them. -/
def feedArrival (s : State) (i : InputNo) (bytes : List Byte) : Arrival FeedEvent :=
  match (feedOf s i).inProgress with
  | none => headerArrival s.profile (inputOf s.lines.feeds i ++ bytes)
  | some f => bodyArrival f (inputOf s.lines.feeds i ++ bytes)

/-- R6: a good header completes. -/
def takeHeader (i : InputNo) (e : FeedEvent) : Option (State → State) :=
  match e with
  | .accepted h => some (acceptHeader i h)
  | .rejected _ => none
  | .whole _ _ _ => none

/-- HEADER_ACCEPTED (R6). -/
def execHeaderAccepted (i : InputNo) (bytes : List Byte) (s : State) : Host.Outcome State Fault Refusal :=
  .next (onArrival (keepFeed i) (takeHeader i) (feedArrival s i bytes) s)

/-! ### Completions (R34, R45) -/

/-- R34: the counters a completion adds to. -/
def countCompletion (cause : Option BadCause) (f : FeedInput) : FeedInput :=
  match cause with
  | none => { f with goodFrames := satInc f.goodFrames }
  | some .headerCheck =>
    { f with badFrames := satInc f.badFrames, headerFailures := satInc f.headerFailures }
  | some .networkId => { f with badFrames := satInc f.badFrames, foreignNetwork := satInc f.foreignNetwork }
  | some .frameCheck => { f with badFrames := satInc f.badFrames, checkFailures := satInc f.checkFailures }
  | some _ => { f with badFrames := satInc f.badFrames }

/-- R34: a completion counted and handed to the acquisition state machine; the silence deadline is set. -/
def completion (i : InputNo) (cause : Option BadCause) (s : State) : State :=
  let f := countCompletion cause (feedOf s i)
  let deadline := addTicks s.tb.localTime (silenceTicks s.profile)
  frameEvent i cause.isNone (setFeed i { f with silenceDeadline := deadline, inProgress := none } s)

/-- R7: the invalid cues of a good frame are skipped and counted. -/
def skipInvalid (i : InputNo) (cues : List Cue) (s : State) : State :=
  let bad := (cues.filter fun c => !cueValid c).length
  let f := feedOf s i
  setFeed i { f with cuesSkipped := satInc^[bad] f.cuesSkipped } s

/-- R45: an offered frame that completes good gives its valid cues to the Break Table, in record order. -/
def passCues (fate : Fate) (cues : List Cue) (s : State) : State :=
  if fate = .notOffered then s else (cues.filter cueValid).foldl takeCue s

/-- R34, R45, R59: a frame past its accepted header completes. -/
def completeFrame (i : InputNo) (fr : InProgress) (rest : List Byte) (body : FrameBody) (s : State) : State :=
  let q := headerSeq fr.header
  match bodyFault fr.header rest body with
  | none =>
    completeGood fr.fate i q body.check body.packets
      (passCues fr.fate body.cues (skipInvalid i body.cues (completion i none s)))
  | some cause => completeBad fr.fate i q (completion i (some cause) s)

/-- R6, R34: a frame completes, at the twentieth byte of a header that is not good, or at the last byte of its frame
check. -/
def takeCompletion (i : InputNo) (e : FeedEvent) : Option (State → State) :=
  match e with
  | .accepted _ => none
  | .rejected cause => some (completion i (some cause))
  | .whole f rest body => some (completeFrame i f rest body)

/-- FRAME_COMPLETION (R34). -/
def execFrameCompletion (i : InputNo) (bytes : List Byte) (s : State) : Host.Outcome State Fault Refusal :=
  .next (onArrival (keepFeed i) (takeCompletion i) (feedArrival s i bytes) s)

/-! ### Silence (R35) -/

/-- R35: an input's silence deadline has been reached. -/
def silenceDue (s : State) (i : InputNo) : Bool := reached s.tb.localTime (feedOf s i).silenceDeadline

/-- R35: a silence interval of an input. -/
def silence (i : InputNo) (s : State) : State :=
  let f := feedOf s i
  frameEvent i false (setFeed i { f with
    badFrames := satInc f.badFrames
    silenceDeadline := addTicks f.silenceDeadline (silenceTicks s.profile) } s)

/-- SILENCE_INTERVAL (R35). -/
def execSilenceInterval (i : InputNo) (s : State) : Host.Outcome State Fault Refusal :=
  .next (if silenceDue s i then silence i s else s)

/-! ### Force Path (R49) -/

/-- An input number of one byte, 1 or 2. -/
def inputOfByte (b : Byte) : Option InputNo := if b = 1 then some .one else if b = 2 then some .two else none

/-- R49: Force Path of an input. -/
def forceInput (i : InputNo) (s : State) : Answer :=
  if s.profile.pathMode = .merge then refuse .wrongState s
  else if i = s.merge.active then done (setRevert none s)
  else done (switchPath i s)

/-- FORCE_PATH (R49). -/
def execForcePath (p : Port) (args : List Byte) (s : State) : Host.Outcome State Fault Refusal :=
  taken p 0x0E <| directed p s <| match args with
    | [b] =>
      match inputOfByte b with
      | some i => forceInput i s
      | none => refuse .badArgument s
    | _ => refuse .badArgument s

/-! ### Applies (R42, R50) -/

/-- R42: an input at an Apply that changes T_f or N_p; a frame or a header partly received is abandoned. -/
def restartInput (i : InputNo) (s : State) : State :=
  let f := feedOf s i
  let f' := { f.enter .searching with
    inProgress := none
    silenceDeadline := addTicks s.tb.localTime (silenceTicks s.profile) }
  raiseIfChanged i f.acq .searching (keepFeed i [] (setFeed i f' s))

/-- R42: the feed inputs at an Apply, from the old profile. V, L and the network id need nothing done here. -/
def feedApply (old : Profile) (s : State) : State :=
  if s.profile.frameInterval ≠ old.frameInterval ∨ s.profile.packets ≠ old.packets then
    let s1 := restartInput .two (restartInput .one s)
    if (feedOf s s.profile.preferred).acq = .locked then setRevert none s1 else s1
  else s

/-- R50: the revert count as an Apply starts it. -/
def startRevert (s : State) (active : InputNo) : Option Counter :=
  if s.profile.revertive && (feedOf s s.profile.preferred).acq == .locked && s.profile.preferred != active then some 0
  else none

/-- R50: the active input on entry to Select. -/
def selectActive (s : State) : InputNo :=
  let pref := s.profile.preferred
  if (feedOf s pref).acq.trusted then pref
  else if (feedOf s (otherInput pref)).acq.trusted then otherInput pref
  else pref

/-- R50: Path Merge at an Apply, from the old profile. -/
def mergeApply (old : Profile) (s : State) : State :=
  match old.pathMode, s.profile.pathMode with
  | .merge, .select =>
    let a := selectActive s
    s.setMerge { s.merge with active := a, revert := startRevert s a }
  | .select, .merge => setRevert none s
  | .select, .select =>
    if s.profile.preferred ≠ old.preferred ∨ s.profile.revertive ≠ old.revertive then
      setRevert (startRevert s s.merge.active) s
    else s
  | .merge, .merge => s

end Sys2Proof.Machine
end

