-- ==== Sys2Proof/Machine/Link.lean ====
section
/-! DEFINITION. The Advert Link: the request arbiter, sending, replies, failed attempts and Withdraw (R117 to R130),
and the meanings of its commands. -/

namespace Sys2Proof.Machine

open Sys2Proof

/-- The state with the link's own items changed. -/
def onLink (f : AdvertLink → AdvertLink) (s : State) : State := s.setLink (f s.link)

/-- A message that answers no Awaiting request is discarded and counted (R123). -/
def countUnsolicited (s : State) : State := onLink (fun l => { l with unsolicited := satInc l.unsolicited }) s

/-! ### The request arbiter (R119, R122) -/

/-- A request the arbiter may choose. -/
structure Chosen where
  record : Fin 16
  entry  : Fin 8
  kind   : RequestKind
  deriving DecidableEq, Repr

/-- An Awaiting slot, not aborted, holds a Query for the entry with this segment id (R119; log 20). -/
def queryAwaits (s : State) (r : Fin 16) (e : Fin 8) (segment : BitVec 32) : Bool :=
  (numbers 2).any fun k => (slotOf s k).any fun q =>
    !q.aborted && q.kind == .query && q.record == r && q.entry == e && q.segment == segment

/-- An Awaiting slot, not aborted, holds a Fetch for the record (R122; log 20). -/
def fetchAwaits (s : State) (r : Fin 16) : Bool :=
  (numbers 2).any fun k => (slotOf s k).any fun q => !q.aborted && q.kind.isFetch && q.record == r

/-- R119: a Query is eligible for an entry of a record. -/
def queryEligible (s : State) (r : Fin 16) (b : BreakRec) (e : Fin 8) : Bool :=
  b.state == .pending && (entryOf b e).any fun x => x.state == .querying && !queryAwaits s r e x.segment

/-- R119: the Query chosen: the record earliest in the creation order, its entry of lowest position. -/
def chooseQuery (s : State) : Option Chosen :=
  s.link.created.findSome? fun r =>
    (recOf s r).bind fun b =>
      ((numbers 8).find? fun e => queryEligible s r b e).map fun e => ⟨r, e, .query⟩

/-- R122: the entry a Fetch of a record is for: the first with a next fetch offset below its packet count. -/
def fetchEntry (b : BreakRec) : Option (Fin 8) :=
  (numbers 8).find? fun e => (entryOf b e).any fun x => decide (x.nextOffset < x.count.getD 0)

/-- R122: the count of a Fetch of an entry. -/
def fetchCount (s : State) (r : Fin 16) (x : Entry) : Nat :=
  min (min s.profile.fetchSize (x.count.getD 0 - x.nextOffset))
    (min (s.profile.highMark - queuePlaces (queueOf s r)) (freePlaces s.memory))

/-- R122: the Fetch a record is eligible for. -/
def fetchOf (s : State) (r : Fin 16) (b : BreakRec) : Option Chosen :=
  if fetchAwaits s r || b.entries.any (fun x => x.state == .withdrawn || x.state == .failed) then none
  else
    (fetchEntry b).bind fun e => (entryOf b e).bind fun x =>
      if fetchCount s r x = 0 then none else some ⟨r, e, .fetch x.nextOffset (fetchCount s r x)⟩

/-- R119: the order value of a record among Fetches of one class. -/
def fetchRank (s : State) (b : BreakRec) : Nat := (b.sIn - (timelineSeq s).getD 0 + 32768).toNat

/-- R119: the Fetch chosen among the records of one state: the lowest order value, then the lowest number. -/
def chooseFetch (s : State) (st : BreakState) : Option Chosen :=
  ((numbers 16).foldl (fun (best : Option (Nat × Chosen)) r =>
    match recOf s r with
    | none => best
    | some b =>
      if b.state = st then
        match fetchOf s r b, best with
        | none, _ => best
        | some c, none => some (fetchRank s b, c)
        | some c, some (rank, c0) => if fetchRank s b < rank then some (fetchRank s b, c) else some (rank, c0)
      else best) none).map (·.2)

/-- R119: the next request: a Fetch for a record OnAir, a Query, a Fetch for a record in Fetching. -/
def chooseRequest (s : State) : Option Chosen :=
  (chooseFetch s .onAir).or ((chooseQuery s).or (chooseFetch s .fetching))

/-! ### Sending (R118) -/

/-- The lower-numbered slot whose request satisfies a test. -/
def slotWhere (s : State) (f : Request → Bool) : Option (Fin 2) := (numbers 2).find? fun k => (slotOf s k).any f

/-- The lower-numbered Free slot. -/
def freeSlotOf (s : State) : Option (Fin 2) := (numbers 2).find? fun k => (slotOf s k).isNone

/-- The bytes of a request's message (01, section 1.7). -/
def requestMessage (k : Fin 2) (q : Request) : List Byte :=
  match q.kind with
  | .query => queryMessage k q.segment
  | .fetch offset count => fetchMessage k q.breakId q.segment offset count

/-- A message put on the outgoing line. -/
def putOnLine (bytes : List Byte) (slot : Option (Fin 2)) (s : State) : State :=
  onLink (fun l => { l with line := some ⟨bytes, slot⟩ }) s

/-- R118, R128: an Abort put on the line; it adds one to aborts sent. -/
def sendAbort (k : Fin 2) (q : Request) (s : State) : State :=
  putOnLine (abortMessage k) none
    (onLink (fun l => { l with aborts := satInc l.aborts }) (setSlotOf k (some { q with abortWaiting := false }) s))

/-- R118: a reissue put on the line. -/
def sendReissue (k : Fin 2) (q : Request) (s : State) : State :=
  putOnLine (requestMessage k q) (some k) (setSlotOf k (some { q with send := .beingSent }) s)

/-- R119, R122: a new request takes a slot, reserves its extent, and is put on the line. -/
def sendNew (k : Fin 2) (c : Chosen) (b : BreakRec) (x : Entry) (s : State) : State :=
  let q : Request := ⟨c.kind, c.record, b.id, c.entry, x.segment, .beingSent, none, false, false⟩
  let s1 := updateEntry c.record c.entry (fun x => { x with attempts := 0 }) (setSlotOf k (some q) s)
  let s2 := match c.kind with
    | .query => onLink (fun l => { l with queries := satInc l.queries }) s1
    | .fetch _ n =>
      onLink (fun l => { l with fetches := satInc l.fetches })
        (setQueue c.record (queueOf s1 c.record ++ [.reserved n]) s1)
  putOnLine (requestMessage k q) (some k) s2

/-- What the link sends next when its line is idle (R118). -/
inductive NextSend
  | abort (k : Fin 2) (q : Request)
  | reissue (k : Fin 2) (q : Request)
  | fresh (k : Fin 2) (c : Chosen) (b : BreakRec) (x : Entry)
  deriving DecidableEq, Repr

/-- R118: the first message that waits, by the order Abort, reissue, new request. -/
def nextSend (s : State) : Option NextSend :=
  match slotWhere s (·.abortWaiting) with
  | some k => (slotOf s k).map (.abort k)
  | none =>
    match slotWhere s (fun q => q.send == .waiting && !q.aborted) with
    | some k => (slotOf s k).map (.reissue k)
    | none =>
      match freeSlotOf s, chooseRequest s with
      | some k, some c =>
        (recOf s c.record).bind fun b => (entryOf b c.entry).map fun x => .fresh k c b x
      | _, _ => none

/-- R118: MESSAGE_SEND is due: the line is idle and a message waits. -/
def sendDue (s : State) : Bool := s.link.line.isNone && (nextSend s).isSome

/-- R118: the link sends the first message that waits; nothing happens while the line is busy or none waits. -/
def sendMessage (s : State) : State :=
  if s.link.line.isSome then s
  else
    match nextSend s with
    | none => s
    | some (.abort k q) => sendAbort k q s
    | some (.reissue k q) => sendReissue k q s
    | some (.fresh k c b x) => sendNew k c b x s

/-- MESSAGE_SEND (R118). -/
def execMessageSend (s : State) : Host.Outcome State Fault Refusal := .next (sendMessage s)

/-- R118: the last byte of the message on the line has left: a request still being sent becomes sent and its
deadline is set; the line becomes idle. -/
def messageLeft (s : State) : State :=
  match s.link.line with
  | none => s
  | some m =>
    let s1 := onLink (fun l => { l with line := none }) s
    match m.slot with
    | none => s1
    | some k =>
      match slotOf s k with
      | none => s1
      | some q =>
        if q.send = .beingSent then
          setSlotOf k (some { q with
            send := .sent
            deadline := some (addTicks s.tb.localTime (s.profile.replyTimeout * Config.ticksPerMs)) }) s1
        else s1

/-- MESSAGE_SENT (R118). -/
def execMessageSent (s : State) : Host.Outcome State Fault Refusal := .next (messageLeft s)

/-! ### Failed attempts (R127) and link failures (R129) -/

/-- R129: a link failure of a record: one event of M12, and source 10. -/
def linkFailure (s : State) : State := raise srcLink (evalEvent mon12 s)

/-- R127: a request reissued: attempt count and retry counter plus one, the retry counter wrapping with the
rollover flag, the deadline absent, the send state waiting for the line. -/
def reissue (k : Fin 2) (q : Request) (s : State) : State :=
  let s1 := updateEntry q.record q.entry (fun x => { x with attempts := x.attempts + 1 }) s
  let s2 := onLink (fun l => { l with
    retries := l.retries + 1
    rollover := l.rollover || l.retries == 65535 }) s1
  setSlotOf k (some { q with send := .waiting, deadline := none }) s2

/-- R127: fetching of the record has stopped by a Withdraw of any of its entries. -/
def fetchStopped (b : BreakRec) : Bool := b.entries.any (·.state == .withdrawn)

/-- R127: the attempts left to a request by the entry at its position; an entry that an amend has taken away leaves none
(log 21). -/
def mayRetry (s : State) (q : Request) : Bool :=
  match recOf s q.record with
  | none => false
  | some b =>
    !(q.kind.isFetch && fetchStopped b) && (entryOf b q.entry).any fun x => decide (x.attempts < s.profile.retries)

/-- R127, R128: a failed attempt of an Awaiting slot. -/
def failedAttempt (k : Fin 2) (s : State) : State :=
  match slotOf s k with
  | none => s
  | some q =>
    if q.aborted then freeRequest k s
    else if mayRetry s q then reissue k q s
    else
      let s1 := freeRequest k s
      if q.kind.isFetch then
        if (recOf s q.record).any fetchStopped then s1
        else linkFailure (outcomeFailed q.record q.entry s1)
      else outcomeUnknown q.record q.entry q.segment s1

/-- R127: a request's deadline has been reached: its slot is Awaiting, sent, and local time is at or past it. -/
def timeoutDue (s : State) (k : Fin 2) : Bool :=
  (slotOf s k).any fun q => q.deadline.any (reached s.tb.localTime)

/-- R127: the deadline of a request reached with no matching reply. -/
def replyTimedOut (k : Fin 2) (s : State) : State :=
  if timeoutDue s k then failedAttempt k (onLink (fun l => { l with timeouts := satInc l.timeouts }) s) else s

/-- REPLY_TIMEOUT (R127). -/
def execReplyTimeout (k : Fin 2) (s : State) : Host.Outcome State Fault Refusal := .next (replyTimedOut k s)

/-! ### Replies (R123 to R125) -/

/-- R123: the slot that a reply matches: its tag names an Awaiting slot whose request the reply answers. -/
def matchReply (s : State) (tag : Byte) (answers : Request → Bool) : Option (Fin 2 × Request) :=
  (slotOfTag tag).bind fun k => (slotOf s k).bind fun q => if answers q then some (k, q) else none

/-- R124: the attempt count of the request's entry set to 0. By R106 a reply to a request that an amend has overtaken, so
that the entry holds another segment id, does not change the amended record. -/
def clearAttempts (q : Request) (s : State) : State :=
  updateEntry q.record q.entry (fun x => if x.segment = q.segment then { x with attempts := 0 } else x) s

/-- R124: a Query answered: the slot becomes Free and the outcome is handed on, unless it was aborted. -/
def queryAnswered (s : State) (tag : Byte) (segment : BitVec 32) (outcome : Request → State → State) : State :=
  match matchReply s tag fun q => !q.kind.isFetch && q.segment == segment with
  | none => countUnsolicited s
  | some (k, q) =>
    if q.aborted then freeRequest k s else outcome q (clearAttempts q (freeRequest k s))

/-- R9: what the bytes that arrive on the incoming advert line amount to, with those received before them. -/
def advertArrival (s : State) (bytes : List Byte) : Arrival RawMessage := messageArrival (s.lines.advert ++ bytes)

/-- R9: a well-formed message taken: the bytes kept of the line are its first bytes, the rest arrives, and the receiver
keeps nothing. Fields that make the message corrupt, or bytes kept that begin another message, are no such event (logs 4
and 36). -/
def onMessage (fits : Bool) (message : List Byte) (take : State → State) (s : State) : State :=
  if fits && completes s message then take (keepAdvert [] s) else s

/-- R9: a Ready with a packet count of 0 or above 16,777,215 is corrupt, and so no READY. -/
def readyFits (count : BitVec 32) : Bool := decide (1 ≤ count.toNat ∧ count.toNat ≤ 16777215)

/-- R124: a Ready. -/
def takeReady (tag : Byte) (segment count : BitVec 32) (s : State) : State :=
  queryAnswered s tag segment fun q => outcomeReady q.record q.entry segment count.toNat

/-- READY (R124). A packet count that makes the message corrupt is no such event (log 36). -/
def execReady (tag : Byte) (segment count : BitVec 32) (s : State) : Host.Outcome State Fault Refusal :=
  .next (onMessage (readyFits count) (readyMessage tag segment count) (takeReady tag segment count) s)

/-- R124: an Unknown. -/
def takeUnknown (tag : Byte) (segment : BitVec 32) (s : State) : State :=
  queryAnswered s tag segment fun q => outcomeUnknown q.record q.entry segment

/-- UNKNOWN (R124). -/
def execUnknown (tag : Byte) (segment : BitVec 32) (s : State) : Host.Outcome State Fault Refusal :=
  .next (onMessage true (unknownMessage tag segment) (takeUnknown tag segment) s)

/-- R123: the request that a Burst answers. -/
def burstAnswers (breakId : BitVec 16) (segment offset : BitVec 32) (q : Request) : Bool :=
  match q.kind with
  | .query => false
  | .fetch o _ => q.breakId == breakId && q.segment == segment && o == offset.toNat

/-- R125: a Burst fills the reservation of its request, whole or short. -/
def fillBurst (k : Fin 2) (q : Request) (packets : List ServicePacket) (s : State) : State :=
  let s1 := setQueue q.record (fillReserved packets (queueOf s q.record)) (setSlotOf k none s)
  let s2 := updateEntry q.record q.entry
    (fun x => { x with nextOffset := x.nextOffset + packets.length, attempts := 0 }) s1
  if packets.length < q.kind.count then onLink (fun l => { l with shorts := satInc l.shorts }) s2 else s2

/-- R123, R125: a well-formed Burst. -/
def takeBurst (tag : Byte) (breakId : BitVec 16) (segment offset : BitVec 32) (packets : List ServicePacket)
    (s : State) : State :=
  match matchReply s tag (burstAnswers breakId segment offset) with
  | none => countUnsolicited s
  | some (k, q) =>
    if packets.length = 0 ∨ q.kind.count < packets.length then failedAttempt k s
    else if q.aborted then freeRequest k s
    else fillBurst k q packets s

/-- R9: a Burst with a packet whose sync value is not 5A hex is corrupt, and its count field has two bytes. -/
def burstFits (packets : List ServicePacket) : Bool :=
  decide (packets.length ≤ 65535) && packets.all (·.sync == 0x5A)

/-- BURST (R125). Packets that make the message corrupt are no such event (log 36). -/
def execBurst (tag : Byte) (breakId : BitVec 16) (segment offset : BitVec 32) (packets : List ServicePacket)
    (s : State) : Host.Outcome State Fault Refusal :=
  .next (onMessage (burstFits packets) (burstMessage tag breakId segment offset packets)
    (takeBurst tag breakId segment offset packets) s)

/-! ### Withdraw (R126) and corrupt messages (R9, R123) -/

/-- R126, R106, R107, R129: a Withdraw in one record. -/
def withdrawRecord (segment : BitVec 32) (r : Fin 16) (b : BreakRec) (s : State) : State :=
  if withdrawHits segment b then
    let s1 := setRec r (some (withdrawIn s.profile.requery segment b)) s
    match b.state with
    | .armed => raise srcBreak s1
    | .fetching => linkFailure s1
    | .onAir => linkFailure s1
    | _ => s1
  else s

/-- R126: a Withdraw counted and taken in every record it reaches. -/
def takeWithdraw (segment : BitVec 32) (s : State) : State :=
  eachRecord (withdrawRecord segment) (onLink (fun l => { l with withdraws := satInc l.withdraws }) s)

/-- WITHDRAW (R126). -/
def execWithdraw (segment : BitVec 32) (s : State) : Host.Outcome State Fault Refusal :=
  .next (onMessage true (withdrawMessage segment) (takeWithdraw segment) s)

/-- R9, R123: a corrupt message: a failed attempt of the Awaiting slot its tag names, or unsolicited. -/
def takeCorrupt (m : RawMessage) (s : State) : State :=
  match readableTag m with
  | none => countUnsolicited s
  | some k => if (slotOf s k).isSome then failedAttempt k s else countUnsolicited s

/-- R9: a message that is corrupt completes. -/
def takeIfCorrupt (m : RawMessage) : Option (State → State) := if messageCorrupt m then some (takeCorrupt m) else none

/-- CORRUPT_MESSAGE (R9). -/
def execCorruptMessage (bytes : List Byte) (s : State) : Host.Outcome State Fault Refusal :=
  .next (onArrival keepAdvert takeIfCorrupt (advertArrival s bytes) s)

/-- REQUERY_TIMER_EXPIRY (R121). -/
def execRequeryTimerExpiry (r : Fin 16) (e : Fin 8) (s : State) : Host.Outcome State Fault Refusal :=
  .next (expireTimer r e s)

end Sys2Proof.Machine
end

