-- ==== Sys2Proof/Machine/Splice.lean ====
section
/-! DEFINITION. The Splice Unit: label windows, classification, filling, underrun and restamping (R136 to R147). -/

namespace Sys2Proof.Machine

open Sys2Proof

/-! ### Label windows (R136) -/

/-- R136: a label hits a window. -/
def labelHits (w : Window) (label : BitVec 12) : Bool :=
  w.enable && label != 0xFFF && (label &&& w.mask) == (w.base &&& w.mask)

/-- A window of the active profile. -/
def windowAt (s : State) (w : Fin 8) : Window := s.profile.windows.get w

/-- A label hits an enabled window of a kind. -/
def hitsKind (s : State) (k : WindowKind) (label : BitVec 12) : Bool :=
  (numbers 8).any fun w => (windowAt s w).kind == k && labelHits (windowAt s w) label

/-- The record in OnAir that names a window (R138, R140). -/
def onAirNaming (s : State) (w : Fin 8) : Option (Fin 16) :=
  (numbers 16).find? fun r => (recOf s r).any fun b => b.state == .onAir && b.windows.getLsbD w.val

/-- R140: the hit window of a label, the lowest-numbered Splice window that it hits and an OnAir record names, with
that record. -/
def hitWindow (s : State) (label : BitVec 12) : Option (Fin 8 × Fin 16) :=
  (numbers 8).findSome? fun w =>
    if (windowAt s w).kind == .splice && labelHits (windowAt s w) label then (onAirNaming s w).map (w, ·) else none

/-- R139: the kind of a programme packet. -/
inductive PacketKind
  | pass
  | replaced (window : Fin 8) (record : Fin 16)
  | drop
  deriving DecidableEq, Repr

/-- R139: a programme packet classified by its received label. -/
def classify (s : State) (label : BitVec 12) : PacketKind :=
  if label = 0xFFF then .pass
  else
    match hitWindow s label with
    | some (w, r) => .replaced w r
    | none => if hitsKind s .drop label then .drop else .pass

/-! ### Filling (R141 to R144) -/

/-- R142: an advert packet with its outgoing label. -/
def translate (w : Window) (p : ServicePacket) : ServicePacket :=
  if p.label = 0xFFF ∨ w.translate = false then p
  else { p with label := (w.newLabel &&& w.mask) ||| (p.label &&& ~~~w.mask) }

/-- The forming of one interval: the state, the records with a replaced slot so far, and those with an underrun fill. -/
structure Forming where
  state   : State
  touched : List (Fin 16)
  under   : List (Fin 16)
  deriving DecidableEq, Repr

/-- The state with a record changed, when it is not Free. -/
def updateRec (r : Fin 16) (f : BreakRec → BreakRec) (s : State) : State :=
  match recOf s r with
  | none => s
  | some b => setRec r (some (f b)) s

/-- R157: an active evaluation of M11 for a record; when it leaves the latched-fault flag set, the record's
underrun-latched mark is set (log 19). In OFF no evaluation is taken. -/
def evalUnderrun (r : Fin 16) (s : State) : State :=
  let s1 := evalCondition mon11 true s
  if (monSetting s mon11).mode ≠ .off ∧ (monRec s1 mon11).latched = true then
    updateRec r (fun b => { b with underrunMark := true }) s1
  else s1

/-- An underrun fill of a record: counted in the record and in the Splice Unit (R141, R148). -/
def countUnderrun (r : Fin 16) (s : State) : State :=
  let s1 := updateRec r (fun b => { b with underruns := b.underruns + 1 }) s
  s1.setSplice { s1.splice with underruns := satInc s1.splice.underruns }

/-- R141: a replaced slot of a record filled, with the packet that leaves at its position. -/
def fillSlot (w : Fin 8) (r : Fin 16) (f : Forming) : ServicePacket × Forming :=
  let s := updateRec r (fun b => { b with replaced := b.replaced + 1 }) f.state
  let seen := if f.touched.contains r then f.touched else f.touched ++ [r]
  let short := if f.under.contains r then f.under else f.under ++ [r]
  match recOf s r with
  | none => (nullPacket, { f with state := s })
  | some b =>
    if b.underrunMark then (nullPacket, ⟨countUnderrun r s, seen, short⟩)
    else
      match readHead (queueOf s r) with
      | some (p, q) =>
        (translate (windowAt s w) p,
          ⟨updateRec r (fun b => { b with emitted := b.emitted + 1 }) (setQueue r q s), seen, f.under⟩)
      | none =>
        if some b.emitted = b.total then
          (nullPacket, ⟨updateRec r (fun b => { b with tails := b.tails + 1 }) s, seen, f.under⟩)
        else
          let s1 := countUnderrun r s
          (nullPacket, ⟨if f.under.contains r then s1 else evalUnderrun r s1, seen, short⟩)

/-- R139: one position of a frame. -/
def splicePacket (p : ServicePacket) (f : Forming) : ServicePacket × Forming :=
  match classify f.state p.label with
  | .pass => (p, f)
  | .drop =>
    let s := f.state
    (nullPacket, { f with state := s.setSplice { s.splice with dropped := satInc s.splice.dropped } })
  | .replaced w r => fillSlot w r f

/-- R138: the positions of a frame in order; one packet leaves for each. -/
def splicePackets : List ServicePacket → Forming → List ServicePacket × Forming
  | [], f => ([], f)
  | p :: rest, f =>
    let r := splicePacket p f
    let t := splicePackets rest r.2
    (r.1 :: t.1, t.2)

/-- R144: the inactive evaluations of M11, in order of record number. -/
def evalServed (f : Forming) : State :=
  forEach (fun r s => if f.touched.contains r && !f.under.contains r then evalCondition mon11 false s else s) f.state

/-! ### Restamping (R145) -/

/-- R145: a packet that leaves, restamped through the continuity table where its label calls for it. -/
def restampPacket (p : ServicePacket) (s : State) : ServicePacket × State :=
  if hitsKind s .splice p.label then
    let c : BitVec 4 := match lookupLabel p.label s.splice.continuity with
      | none => p.continuity
      | some c => c + 1
    ({ p with continuity := c },
      s.setSplice { s.splice with
        continuity := storeLabel p.label c s.splice.continuity
        restamped := satInc s.splice.restamped })
  else (p, s)

/-- R145: the packets that leave, restamped in position order. -/
def restampPackets : List ServicePacket → State → List ServicePacket × State
  | [], s => ([], s)
  | p :: rest, s =>
    let r := restampPacket p s
    let t := restampPackets rest r.2
    (r.1 :: t.1, t.2)

/-- R138, R144, R145, R147: a programme frame through the Splice Unit; restamped when the interval is formed in
Running. -/
def spliceFrame (running : Bool) (packets : List ServicePacket) (s : State) : List ServicePacket × State :=
  let r := splicePackets packets ⟨s, [], []⟩
  let s1 := evalServed r.2
  if running then restampPackets r.1 s1 else (r.1, s1)

end Sys2Proof.Machine
end

