-- ==== Sys2Proof/Machine/Output.lean ====
section
/-! DEFINITION. The Emission Output and the exciter port (R76 to R93), and the meanings of its commands. -/

namespace Sys2Proof.Machine

open Sys2Proof

/-- The output's own items changed. -/
def onOutput (f : Output → Output) (s : State) : State := s.setOutput (f s.output)

/-- The output is Idle or Waiting. -/
def OutState.stopped : OutState → Bool
  | .idle => true
  | .waiting => true
  | .running => false
  | .muted => false

/-! ### At a boundary (R81, R82) -/

/-- R81: the sample of the exciter-ready input. -/
def sampleReady (ready : Bool) (s : State) : State :=
  if ready then removeCause .exciter s
  else addCause .exciter (onOutput (fun o => { o with notReady := satInc o.notReady }) s)

/-- R82, R91: the output enters Running. The mute line is released where an interval is formed (R88). -/
def enterRunning (s : State) : State := raise srcOutput (onOutput (fun o => { o with state := .running }) s)

/-- R82: the output decides its state for a boundary. -/
def decideState (s : State) : State :=
  match s.output.state with
  | .idle => s
  | .waiting => if noCause s.output.causes then enterRunning s else muteAtOnce s
  | .running => if noCause s.output.causes then s else muteAtOnce s
  | .muted => if noCause s.output.causes then enterRunning s else s

/-! ### Forming an interval (R83 to R86, R90) -/

/-- R84: the slot instant of packet slot k in the interval that begins at `b`. -/
def slotInstant (p : Profile) (b : NetTime) (k : Nat) : NetTime := addTicks b (k * p.frameInterval / p.packets : Nat)

/-- R84: packets in position order from position k on, with their slot instants. -/
def withInstants (p : Profile) (b : NetTime) : (k : Nat) → List ServicePacket → List (ServicePacket × NetTime)
  | _, [] => []
  | k, x :: rest => (x, slotInstant p b k) :: withInstants p b (k + 1) rest

/-- A null frame: N_p null packets (R5). -/
def nullFrame (p : Profile) : List ServicePacket := List.replicate p.packets nullPacket

/-- The packets of a Held slot. -/
def Slot.heldPackets : Slot → List ServicePacket
  | .held _ _ packets => packets
  | _ => []

/-- What R83 forms: the kind, the packets, the Emitting slot, and the state after the Splice Unit. -/
structure Formed where
  kind    : IntervalKind
  packets : List ServicePacket
  slot    : Option (Fin 64)
  state   : State
  deriving DecidableEq, Repr

/-- R83: the packets of an interval, from what the store hands over. -/
def formPackets (running : Bool) (carried : Option Seq) (s : State) : Formed :=
  match carried with
  | none => ⟨.gap, nullFrame s.profile, none, onOutput (fun o => { o with gap := satInc o.gap }) s⟩
  | some q =>
    match heldOf s q with
    | none => ⟨.missing, nullFrame s.profile, none, onOutput (fun o => { o with missing := satInc o.missing }) s⟩
    | some i =>
      let r := spliceFrame running (slotAt s i).heldPackets (takeHeld i s)
      ⟨.programme, r.1, some i, r.2⟩

/-- R85, R88: an interval formed in Running goes into delivery; the mute line is released from B to B + T_f. -/
def deliver (b : NetTime) (carried : Option Seq) (f : Formed) : State :=
  onOutput (fun o => { o with
    interval := some ⟨b, carried, f.kind, withInstants f.state.profile b 0 f.packets, 0, f.slot⟩
    delivered := satInc o.delivered
    muteLine := false
    muteAt := some (addTicks b f.state.profile.frameInterval) }) f.state

/-- R86: an interval formed in Muted is not delivered, and its slot is returned at once. -/
def withhold (f : Formed) : State :=
  returnSlot f.slot (onOutput (fun o => { o with interval := none, muted := satInc o.muted }) f.state)

/-- R83, R90: the evaluation of M4 that an interval's kind gives. -/
def evalProgramme (kind : IntervalKind) (s : State) : State :=
  match kind with
  | .programme => evalCondition mon4 false s
  | .missing => evalCondition mon4 true s
  | .gap => s

/-- R83 to R90: the interval of a boundary at `b`, in an output that is Running or Muted after R82. -/
def formInterval (b : NetTime) (carried : Option Seq) (s : State) : State :=
  match s.output.state with
  | .running =>
    let f := formPackets true carried s
    evalProgramme f.kind (deliver b carried f)
  | .muted =>
    let f := formPackets false carried s
    evalProgramme f.kind (withhold f)
  | _ => s

/-! ### Presentation (R85, R87) -/

/-- The next packet of the interval in delivery, with its slot instant. -/
def nextPacket (s : State) : Option (Interval × ServicePacket × NetTime) :=
  s.output.interval.bind fun v => v.packets[v.next]?.map fun x => (v, x.1, x.2)

/-- R85: local time has reached the slot instant of the next packet. -/
def presentationDue (s : State) : Bool := (nextPacket s).any fun x => reached s.tb.localTime x.2.2

/-- R85, R87: the next packet presented, the frame marker with slot 0; after the last one the Emitting slot is
returned and the interval is no longer in delivery. -/
def present (s : State) : State :=
  match nextPacket s with
  | none => s
  | some (v, p, _) =>
    let last := decide (v.packets.length ≤ v.next + 1)
    let s1 := onOutput (fun o => { o with
      dataLines := some p
      marker := v.next == 0
      interval := if last then none else some { v with next := v.next + 1 } }) s
    if last then returnSlot v.slot s1 else s1

/-- PACKET_PRESENTATION (R85). -/
def execPacketPresentation (s : State) : Host.Outcome State Fault Refusal :=
  .next (if presentationDue s then present s else s)

/-- R88: B + T_f has been reached in Running with no boundary at that instant. -/
def muteLineDue (s : State) : Bool :=
  s.output.state == .running && !s.output.muteLine && s.output.muteAt.any (reached s.tb.localTime) && !boundaryDue s

/-- MUTE_LINE_ASSERT (R88). -/
def execMuteLineAssert (s : State) : Host.Outcome State Fault Refusal :=
  .next (if muteLineDue s then onOutput (fun o => { o with muteLine := true, muteAt := none }) s else s)

/-! ### Commands (R77 to R79) -/

/-- R77: an Apply is pending that changes T_f or N_p. -/
def formatPending (s : State) : Bool :=
  s.settings.apply != .none &&
    (s.settings.staged.frameInterval != s.settings.active.frameInterval
      || s.settings.staged.packets != s.settings.active.packets)

/-- START_EMISSION (R77). -/
def execStartEmission (p : Port) (args : List Byte) (s : State) : Host.Outcome State Fault Refusal :=
  taken p 0x0B <| directed p s <| noArguments args s <|
    if s.output.state ≠ .idle ∨ formatPending s = true then refuse .wrongState s
    else done (raise srcOutput (onOutput (fun o => { o with state := .waiting }) s))

/-- R78, R88, R89: the output stopped: Idle, the mute line asserted, the Emitting slot returned; an interval in
delivery goes on. -/
def stopOutput (s : State) : State :=
  let s1 := returnSlot (s.output.interval.bind (·.slot)) s
  raise srcOutput (onOutput (fun o => { o with
    state := .idle
    muteLine := true
    muteAt := none
    interval := o.interval.map fun v => { v with slot := none } }) s1)

/-- STOP_EMISSION (R78). -/
def execStopEmission (p : Port) (args : List Byte) (s : State) : Host.Outcome State Fault Refusal :=
  taken p 0x0C <| directed p s <| noArguments args s <|
    if s.output.state = .idle then done s else done (stopOutput s)

/-- SET_MUTE (R79). -/
def execSetMute (p : Port) (args : List Byte) (s : State) : Host.Outcome State Fault Refusal :=
  taken p 0x0D <| directed p s <| match args with
    | [b] =>
      match flagOf b with
      | some true => done (addCause .command s)
      | some false => done (removeCause .command s)
      | none => refuse .badArgument s
    | _ => refuse .badArgument s

end Sys2Proof.Machine
end

