-- ==== Sys2Proof/Machine/Timebase.lean ====
section
/-! DEFINITION. The Site Timebase (R12 to R31) and the time-of-day receiver (R8), and the meanings of their commands. -/

namespace Sys2Proof.Machine

open Sys2Proof

/-! ### The oscillator and the adjustment periods (R12, R13) -/

/-- R12: the cycle of the next adjustment of the current period; none when every one has been applied. -/
def nextPosition (tb : Timebase) : Option Nat :=
  if tb.applied < tb.adjust.natAbs then
    some ((tb.applied + 1) * Config.periodCycles / (tb.adjust.natAbs + 1))
  else none

/-- R12: the next oscillator cycle is an adjustment position. -/
def atPosition (tb : Timebase) : Bool := tb.cycle.isSome && tb.cycle == nextPosition tb

/-- R13: the current period has run its 10,000,000 cycles. -/
def periodDone (tb : Timebase) : Bool := tb.cycle.any fun k => decide (Config.periodCycles ≤ k)

/-- R12, R30: local time advances by some ticks; a change of the seconds is counted for its evaluation. -/
def advance (ticks : Int) (tb : Timebase) : Timebase :=
  let t := addTicks tb.localTime ticks
  { tb with localTime := t, secondsDue := if t.sec = tb.localTime.sec then tb.secondsDue else tb.secondsDue + 1 }

/-- R12: one oscillator cycle outside the adjustment positions. -/
def plainCycle (tb : Timebase) : Timebase := advance 1 { tb with cycle := tb.cycle.map (· + 1) }

/-- R12: one oscillator cycle at an adjustment position: two ticks for a gain, none for a loss. -/
def adjustCycle (tb : Timebase) : Timebase :=
  advance (if 0 < tb.adjust then 2 else 0) { tb with cycle := tb.cycle.map (· + 1), applied := tb.applied + 1 }

/-- R13: the carry step. -/
def carryStep (tb : Timebase) : Timebase :=
  let c := tb.carry + (tb.freq + tb.phase)
  { tb with adjust := c.tdiv 100, carry := c - c.tdiv 100 * 100 }

/-- R13: what an abandoned period returns to the carry. -/
def unapplied (tb : Timebase) : Int :=
  if tb.cycle.isSome then tb.adjust.sign * 100 * ((tb.adjust.natAbs - tb.applied : Nat) : Int) else 0

/-- R13: a new period begins, an unfinished one returning its unapplied adjustments first. -/
def beginPeriod (tb : Timebase) : Timebase :=
  carryStep { tb with carry := tb.carry + unapplied tb, cycle := some 0, applied := 0 }

/-- ADJUSTMENT_POSITION (R12). Away from an adjustment position it is no such event (log 4). -/
def execAdjustmentPosition (s : State) : Host.Outcome State Fault Refusal :=
  .next (if atPosition s.tb then s.setTb (adjustCycle s.tb) else s)

/-! ### States (R25, R30, R31) -/

/-- The timebase replaced; a change of its state raises source 6 (R31). -/
def updateTb (tb : Timebase) (s : State) : State :=
  let s1 := s.setTb tb
  if tb.state = s.tb.state then s1 else raise srcTimebase s1

/-- R25: U above the uncertainty limit. -/
def overLimit (p : Profile) (tb : Timebase) : Bool := tb.holdover.any fun h => decide (p.uncertainty < h.uncertainty.toNat)

/-- R25: Holdover with U above the limit becomes Expired. -/
def expireHoldover (p : Profile) (tb : Timebase) : Timebase :=
  if tb.state = .holdover ∧ overLimit p tb = true then { tb with state := .expired } else tb

/-- R25: a period end while h is counting. -/
def countHoldover (p : Profile) (tb : Timebase) : Timebase :=
  match tb.holdover with
  | none => tb
  | some h =>
    let h' := sat32 (h.seconds.toNat + 1)
    { tb with holdover := some ⟨h', sat32 (h'.toNat * p.allowance / 100)⟩ }

/-- R13: the states whose periods follow one another without a gap. -/
def TbState.chained : TbState → Bool
  | .free => true
  | .acquiring => true
  | .holdover => true
  | .expired => true
  | .tracking => false
  | .slewing => false

/-- R13, R25: an adjustment period ends. -/
def endPeriod (p : Profile) (tb : Timebase) : Timebase :=
  let tb1 := expireHoldover p (countHoldover p tb)
  if tb1.state.chained then beginPeriod tb1 else { tb1 with cycle := none }

/-- ADJUSTMENT_PERIOD_END (R13, R25). -/
def execAdjustmentPeriodEnd (s : State) : Host.Outcome State Fault Refusal :=
  .next (if periodDone s.tb then updateTb (endPeriod s.profile s.tb) s else s)

/-- R30: the condition of M9. -/
def m9Active (s : State) : Bool := s.tb.state == .slewing

/-- R30: the condition of M10. -/
def m10Active (s : State) : Bool :=
  match s.tb.state with
  | .free => true
  | .expired => true
  | .acquiring => !s.tb.tracked || overLimit s.profile s.tb
  | .tracking => false
  | .slewing => false
  | .holdover => false

/-- R30: one change of the seconds, an evaluation of M9 and of M10 (log 30). -/
def evalSeconds (s : State) : State :=
  let s1 := evalCondition mon9 (m9Active s) s
  evalCondition mon10 (m10Active s1) s1

/-- SECONDS_CHANGE (R30). With no change left to evaluate it is no such event (log 4). -/
def execSecondsChange (s : State) : Host.Outcome State Fault Refusal :=
  .next (if s.tb.secondsDue = 0 then s
    else evalSeconds (s.setTb { s.tb with secondsDue := s.tb.secondsDue - 1 }))

/-! ### The time-of-day message (R8) -/

/-- R8: a completed message replaces the held state. -/
def takeMessage (m : List Byte) : Option (State → State) := some fun s => s.setTod (todOfMessage m)

/-- TIME_OF_DAY_MESSAGE (R8). -/
def execTimeOfDayMessage (bytes : List Byte) (s : State) : Host.Outcome State Fault Refusal :=
  .next (onArrival keepTod takeMessage (todArrival (s.lines.tod ++ bytes)) s)

/-! ### Steps (R20, R29) -/

/-- R16, R20: the missing-pulse deadline that a pulse at a time sets: 1 s + W later. -/
def deadlineAfter (p : Profile) (t : NetTime) : NetTime := addTicks t ((Config.ticksPerSecond : Int) + p.pulseGuard)

/-- R19, R20: what completing acquisition or a step clears and sets. -/
def synchronised (label : BitVec 32) (tb : Timebase) : Timebase :=
  { tb with expected := some (label + 1), outlierRun := 0, missRun := 0, acquired := none, holdover := none, tracked := true }

/-- R20: the timebase at a step. -/
def stepTb (p : Profile) (label : BitVec 32) (tb : Timebase) : Timebase :=
  carryStep (synchronised label { tb with
    localTime := startOfSecond label
    state := .tracking
    phase := 0
    carry := 0
    cycle := some 0
    applied := 0
    missDeadline := some (deadlineAfter p (startOfSecond label))
    steps := satInc tb.steps })

/-- R29: an interval's slot instants moved by the step amount. -/
def moveInterval (e : Int) (v : Interval) : Interval :=
  { v with packets := v.packets.map fun x => (x.1, addTicks x.2 e) }

/-- R29: every deadline and slot instant that the other blocks hold, and the presence reference, moved by the step
amount. -/
def moveDeadlines (e : Int) (s : State) : State :=
  let move (t : NetTime) : NetTime := addTicks t e
  let feed (f : FeedInput) : FeedInput := { f with silenceDeadline := move f.silenceDeadline }
  let s1 := s.setFeeds ⟨feed s.feeds.fst, feed s.feeds.snd⟩
  let s2 := s1.setLink { s1.link with
    slots := s1.link.slots.map fun q? => q?.map fun q => { q with deadline := q.deadline.map move } }
  let s3 := s2.setDirection { s2.direction with
    presence := s2.direction.presence.map fun v => { v with reference := move v.reference, deadline := move v.deadline } }
  onOutput (fun o => { o with interval := o.interval.map (moveInterval e), muteAt := o.muteAt.map move }) s3

/-- R20, R29, R30, R67: a step to a pulse with label L and phase error e. -/
def takeStep (label : BitVec 32) (e : Int) (s : State) : State :=
  let s1 := moveDeadlines e (updateTb (stepTb s.profile label s.tb) s)
  let s2 := recheckAndReanchor s1
  if label = s.tb.localTime.sec then s2 else evalSeconds s2

/-! ### Labelled pulses (R15 to R27) -/

/-- R15, R16: what every labelled pulse records: its local time and e, a missing run of 0, and the deadline. -/
def recordPulse (p : Profile) (e : Int) (tb : Timebase) : Timebase :=
  { tb with
    lastPulse := some ⟨tb.localTime, e⟩
    missRun := 0
    missDeadline := some (deadlineAfter p tb.localTime) }

/-- R17, R27: the first counted pulse of an acquisition (log 13). -/
def startAcquiring (label : BitVec 32) (tb : Timebase) : Timebase :=
  { tb with state := .acquiring, acquired := some label, outlierRun := 0 }

/-- R19, R24: P at a pulse that slews, e × 100 within the slew limit. -/
def slewPhase (p : Profile) (e : Int) : Int := clampAbs p.slewLimit (e * 100)

/-- R19: acquisition completes with the output Running or Muted. -/
def completeOnAir (p : Profile) (label : BitVec 32) (e : Int) (tb : Timebase) : Timebase :=
  let near := e.natAbs ≤ p.threshold
  beginPeriod (synchronised label { tb with
    state := if near then .tracking else .slewing
    phase := if near then 0 else slewPhase p e })

/-- R22: the loop update, each result within its limit. -/
def loopUpdate (p : Profile) (e : Int) (tb : Timebase) : Timebase :=
  { tb with
    freq := clampAbs p.freqLimit (tb.freq + (e * 100).tdiv p.integral)
    phase := clampAbs p.slewLimit ((e * 100).tdiv p.proportional) }

/-- R21: an accepted pulse in Tracking. -/
def acceptPulse (p : Profile) (label : BitVec 32) (e : Int) (tb : Timebase) : Timebase :=
  beginPeriod (loopUpdate p e { tb with
    outlierRun := 0, accepted := satInc tb.accepted, expected := some (label + 1) })

/-- R21: an outlier; the third one in a row starts acquisition with h and U at 0. -/
def outlier (label : BitVec 32) (tb : Timebase) : Timebase :=
  let tb1 := beginPeriod { tb with
    outlierRun := tb.outlierRun + 1
    outliers := satInc tb.outliers
    phase := 0
    expected := tb.expected.map (· + 1) }
  if 3 ≤ tb1.outlierRun then { startAcquiring label tb1 with holdover := some ⟨0, 0⟩ } else tb1

/-- R24: a pulse with the expected label in Slewing, the output Running or Muted. -/
def slewPulse (p : Profile) (label : BitVec 32) (e : Int) (tb : Timebase) : Timebase :=
  beginPeriod { tb with
    phase := slewPhase p e
    outlierRun := 0
    accepted := satInc tb.accepted
    expected := some (label + 1)
    state := if e.natAbs ≤ p.threshold then .tracking else .slewing }

/-- A labelled pulse with its label and e, taken by the rule of the current state (R17, R18, R19, R21, R24, R27). -/
def labelledPulse (label : BitVec 32) (e : Int) (s : State) : State :=
  let p := s.profile
  let tb := recordPulse p e s.tb
  let s1 := s.setTb tb
  match tb.state with
  | .free => updateTb (startAcquiring label tb) s1
  | .holdover => updateTb (startAcquiring label tb) s1
  | .expired => updateTb (startAcquiring label tb) s1
  | .acquiring =>
    if tb.acquired.any (fun first => label == first + 1) then
      if s.output.state.stopped then takeStep label e s1 else updateTb (completeOnAir p label e tb) s1
    else updateTb { tb with acquired := some label } s1
  | .tracking =>
    if tb.expected ≠ some label ∨ p.threshold < e.natAbs then updateTb (outlier label tb) s1
    else updateTb (acceptPulse p label e tb) s1
  | .slewing =>
    if tb.expected ≠ some label then updateTb (outlier label tb) s1
    else if s.output.state.stopped then takeStep label e s1
    else updateTb (slewPulse p label e tb) s1

/-! ### Missing pulses (R16, R18, R23, R25) -/

/-- R23, R25: a missing pulse in Tracking and Slewing, before the missing run is compared. -/
def coast (tb : Timebase) : Timebase := beginPeriod { tb with phase := 0, expected := tb.expected.map (· + 1) }

/-- R25: entry to Holdover. -/
def enterHoldover (tb : Timebase) : Timebase :=
  { tb with state := .holdover, phase := 0, holdover := some ⟨0, 0⟩, missDeadline := none, acquired := none }

/-- R16, R18, R23, R25: a missing pulse in Acquiring, Tracking or Slewing. -/
def missPulse (p : Profile) (tb : Timebase) : Timebase :=
  let tb1 := { tb with missRun := satInc tb.missRun, missing := satInc tb.missing }
  if tb1.state = .acquiring then { tb1 with acquired := none }
  else
    let tb2 := coast tb1
    if p.missCount ≤ tb2.missRun.toNat then enterHoldover tb2 else tb2

/-- R16: the states that keep a missing-pulse deadline. -/
def TbState.timed : TbState → Bool
  | .acquiring => true
  | .tracking => true
  | .slewing => true
  | .free => false
  | .holdover => false
  | .expired => false

/-- R16: an unlabelled pulse. -/
def unlabelledPulse (s : State) : State :=
  if s.tb.state.timed then
    updateTb (missPulse s.profile { s.tb with missDeadline := some (deadlineAfter s.profile s.tb.localTime) }) s
  else s.setTb { s.tb with missing := satInc s.tb.missing }

/-- R8, R15: a pulse consumes the held message state and is labelled or unlabelled by it. -/
def takePulse (s : State) : State :=
  let s1 := s.setTod .none
  match s.tod with
  | .accepted label => labelledPulse label (timeDiff (startOfSecond label) s.tb.localTime) s1
  | .none => unlabelledPulse s1
  | .invalid => unlabelledPulse s1

/-- REFERENCE_PULSE (R15). -/
def execReferencePulse (s : State) : Host.Outcome State Fault Refusal := .next (takePulse s)

/-- R16: local time has reached the missing-pulse deadline. -/
def missDue (s : State) : Bool := s.tb.state.timed && s.tb.missDeadline.any (reached s.tb.localTime)

/-- R16: the deadline moves 1 s later, and the pulse of that second is missing. -/
def missDeadlineReached (s : State) : State :=
  updateTb (missPulse s.profile
    { s.tb with missDeadline := s.tb.missDeadline.map fun t => addTicks t Config.ticksPerSecond }) s

/-- MISSING_PULSE_DEADLINE (R16). -/
def execMissingPulseDeadline (s : State) : Host.Outcome State Fault Refusal :=
  .next (if missDue s then missDeadlineReached s else s)

/-! ### Applies (R28) -/

/-- R28: the timebase at an Apply; the other settings are used when next read. -/
def timebaseApply (s : State) : State :=
  let p := s.profile
  updateTb (expireHoldover p { s.tb with
    freq := clampAbs p.freqLimit s.tb.freq, phase := clampAbs p.slewLimit s.tb.phase }) s

end Sys2Proof.Machine
end

