-- ==== Sys2Proof/Decode.lean ====
section
/-! DEFINITION. Decoding: no row of the table gives bits, so no word spells a command; which command the bytes of
a port's frame and the bytes received on a line are (R6, R8, R9, R10, R162; log 5). -/

namespace Sys2Proof

open Sys2Proof.Machine

/-- The command that a word spells by the table's bits. No row of spec/opcode_table.json gives bits: none (log 34). -/
def decodeTableWord (_nbits _w : Nat) : Option Instr := none

/-- R162: the command of a code, with its argument bytes; a code outside the table is UNKNOWN_COMMAND. -/
def commandOf (p : Port) (code : Byte) (args : List Byte) : Instr :=
  match code.toNat with
  | 0x01 => .noOperation p args
  | 0x02 => .readStatus p args
  | 0x03 => .claimDirection p args
  | 0x04 => .releaseDirection p args
  | 0x05 => .refuseClaim p args
  | 0x06 => .presence p args
  | 0x07 => .writeSetting p args
  | 0x08 => .readSetting p args
  | 0x09 => .applyStaged p args
  | 0x0A => .discardStaged p args
  | 0x0B => .startEmission p args
  | 0x0C => .stopEmission p args
  | 0x0D => .setMute p args
  | 0x0E => .forcePath p args
  | 0x0F => .createBreak p args
  | 0x10 => .amendBreak p args
  | 0x11 => .cancelBreak p args
  | 0x12 => .retireBreak p args
  | 0x13 => .readBreak p args
  | 0x14 => .listBreaks p args
  | 0x15 => .readMonitor p args
  | 0x16 => .clearFaults p args
  | 0x17 => .readTimebase p args
  | 0x18 => .setAlertRouting p args
  | 0x19 => .setAlertMask p args
  | 0x1A => .takeAlert p args
  | 0x1B => .setAlertPriority p args
  | 0x1C => .restartSite p args
  | _ => .unknownCommand p code args

/-- R10: what the frame of a port gives at the release of chip select. -/
def portFrame (p : Port) (bytes : List Byte) : Instr :=
  if isFrameError bytes then .frameError p bytes
  else commandOf p (bytes.getD 0 0) ((bytes.drop 2).take (field bytes 1 1))

/-- R6: the command that bytes received on a feed line are; none while they complete nothing. -/
def feedCommand (s : State) (i : InputNo) (bytes : List Byte) : Option Instr :=
  match feedArrival s i bytes with
  | .event (.accepted _) _ => some (.headerAccepted i bytes)
  | .event (.rejected _) _ => some (.frameCompletion i bytes)
  | .event (.whole _ _ _) _ => some (.frameCompletion i bytes)
  | .more _ => none
  | .past => none

/-- R8: the command that bytes received on the time-of-day line are; none while they complete nothing. -/
def todCommand (s : State) (bytes : List Byte) : Option Instr :=
  match todArrival (s.lines.tod ++ bytes) with
  | .event _ _ => some (.timeOfDayMessage bytes)
  | .more _ => none
  | .past => none

/-- R9: the command that a message completed by bytes on the incoming advert line is. -/
def linkMessage (m : RawMessage) (bytes : List Byte) : Instr :=
  if messageCorrupt m then .corruptMessage bytes
  else if m.kind = 0x11 then
    .ready (m.body.getD 0 0) (BitVec.ofNat 32 (field m.body 1 4)) (BitVec.ofNat 32 (field m.body 5 4))
  else if m.kind = 0x12 then .unknown (m.body.getD 0 0) (BitVec.ofNat 32 (field m.body 1 4))
  else if m.kind = 0x13 then
    .burst (m.body.getD 0 0) (BitVec.ofNat 16 (field m.body 1 2)) (BitVec.ofNat 32 (field m.body 3 4))
      (BitVec.ofNat 32 (field m.body 7 4)) (burstPackets m)
  else .withdraw (BitVec.ofNat 32 (field m.body 0 4))

/-- R9: the command that bytes received on the incoming advert line are; none while they complete no message. -/
def advertCommand (s : State) (bytes : List Byte) : Option Instr :=
  match advertArrival s bytes with
  | .event m _ => some (linkMessage m bytes)
  | .more _ => none
  | .past => none

end Sys2Proof
end

