-- ==== Sys2Proof/Machine/Profile.lean ====
section
/-! DEFINITION. Profiles and settings: Write, Read, Apply and Discard, and an Apply that takes effect (R169 to R172,
R160). -/

namespace Sys2Proof.Machine

open Sys2Proof

/-! ### Write and Read Setting (R169) -/

/-- R169: a value as a setting of a class stores it, with the result; none for a value that it refuses. -/
def storedValue (c : SettingClass) (v : Int) : Option (Result × Int) :=
  match c with
  | .numeric low high =>
    if v < low then some (.clamped, low) else if high < v then some (.clamped, high) else some (.done, v)
  | .enumerated values => if values.contains v then some (.done, v) else none

/-- The data of Write Setting and Read Setting: the id and the value (R162). -/
def settingData (id : Nat) (v : Int) : List Byte := byte2 id ++ beSigned 4 v

/-- The staged profile replaced. -/
def setStaged (p : Profile) (s : State) : State := s.setSettings { s.settings with staged := p }

/-- R169: Write Setting of an id and a value. -/
def writeSetting (id : Nat) (v : Int) (s : State) : Answer :=
  match settingClass id with
  | none => refuse .badArgument s
  | some c =>
    if s.settings.apply ≠ .none then refuse .wrongState s
    else
      match storedValue c v with
      | none => refuse .badArgument s
      | some (r, v') => ⟨r, settingData id v', setStaged (withSetting s.settings.staged id v') s⟩

/-- WRITE_SETTING (R169). -/
def execWriteSetting (p : Port) (args : List Byte) (s : State) : Host.Outcome State Fault Refusal :=
  taken p 0x07 <| directed p s <|
    if args.length = 6 then writeSetting (field args 0 2) (beInt (args.drop 2)) s else refuse .badArgument s

/-- R169: Read Setting of an id and a profile. -/
def readSetting (id : Nat) (p : Profile) (s : State) : Answer :=
  if (settingClass id).isSome then ⟨.done, settingData id (settingValue p id), s⟩ else refuse .badArgument s

/-- READ_SETTING (R169). -/
def execReadSetting (p : Port) (args : List Byte) (s : State) : Host.Outcome State Fault Refusal :=
  taken p 0x08 <| match args with
    | [a, b, sel] =>
      match flagOf sel with
      | some staged => readSetting (beNat [a, b]) (if staged then s.settings.staged else s.settings.active) s
      | none => refuse .badArgument s
    | _ => refuse .badArgument s

/-! ### An Apply that takes effect (R171, R160) -/

/-- R160: a monitor at an Apply that changes one of its settings. -/
def monitorApply (old : Profile) (m : MonNo) (s : State) : State :=
  if old.monitors.get m = s.profile.monitors.get m then s
  else setMonRec m { monRec s m with count := 0, condition := false } s

/-- R160, R156: the Monitor Unit at an Apply; M4 and M10 are judged together once every monitor has acted. -/
def monitorsApply (old : Profile) (s : State) : State := syncFault (forEach (monitorApply old) s)

/-- R171: the staged profile becomes the active one, the pending Apply none, and source 14 is raised. -/
def copyStaged (s : State) : State :=
  raise srcApply (s.setSettings { s.settings with active := s.settings.staged, apply := .none })

/-- R171: an Apply takes effect, with the sequence of the boundary where it does (log 12); none while the timeline is
Absent. The blocks act in the order in which R171 lists them, the model's choice (log 41): Path Merge (R50) reads the
inputs' states after R42, and events of M5, M6 and M8 that the store gives are taken on the persistence counts before
R160 clears them. The Break Table, the Advert Link and the Splice Unit read their new values when next they use them
(R116, R134, R137). -/
def applyEffect (x : Option Seq) (s : State) : State :=
  let old := s.profile
  monitorsApply old (storeApply old x (mergeApply old (feedApply old (timebaseApply (copyStaged s)))))

/-! ### Apply Staged and Discard Staged (R170, R172) -/

/-- R170, test 1: the form that the arguments name. -/
def applyForm (args : List Byte) : Option PendingApply :=
  match args with
  | [f] => if f = 0 then some .next else none
  | [f, x1, x0] => if f = 1 then some (.atSeq (BitVec.ofNat 16 (beNat [x1, x0]))) else none
  | _ => none

/-- R170, test 5: a staged offset sum that does not differ from the active one by whole frame intervals. -/
def offsetOffGrid (p : Settings) : Bool :=
  (offsetSum p.staged - offsetSum p.active) % (p.active.frameInterval : Int) != 0

/-- R170, test 6: X is too late for an Anchored timeline. -/
def applyTooLate (s : State) (form : PendingApply) : Bool :=
  match form, timelineSeq s with
  | .atSeq x, some t => !atOrAfter x (t + 2)
  | _, _ => false

/-- R170, tests 2 to 6, in order: the first that refuses. -/
def applyRefused (form : PendingApply) (s : State) : Option Result :=
  let v := s.settings
  if v.apply ≠ .none then some .wrongState
  else if v.staged.presenceHigh ≤ v.staged.presenceLow then some .badArgument
  else if (v.staged.frameInterval ≠ v.active.frameInterval ∨ v.staged.packets ≠ v.active.packets)
      ∧ s.output.state ≠ .idle then some .wrongState
  else if s.output.state.stopped = false ∧ offsetOffGrid v = true then some .wrongState
  else if applyTooLate s form then some .tooLate
  else none

/-- R170: the staged start fill clamped to the staged high mark. -/
def clampFill (p : Profile) : Profile := { p with startFill := min p.startFill p.highMark }

/-- R170, R171: an Apply that passes the tests; form 0 takes effect at once while the timeline is Absent. -/
def acceptApply (form : PendingApply) (s : State) : Answer :=
  let v := s.settings
  let r : Result := if v.staged.highMark < v.staged.startFill then .clamped else .done
  let s1 := s.setSettings { v with staged := clampFill v.staged, apply := form }
  ⟨r, [], if form = .next ∧ s.store.timeline = none then applyEffect none s1 else s1⟩

/-- APPLY_STAGED (R170). -/
def execApplyStaged (p : Port) (args : List Byte) (s : State) : Host.Outcome State Fault Refusal :=
  taken p 0x09 <| directed p s <|
    match applyForm args with
    | none => refuse .badArgument s
    | some form =>
      match applyRefused form s with
      | some r => refuse r s
      | none => acceptApply form s

/-- DISCARD_STAGED (R172). -/
def execDiscardStaged (p : Port) (args : List Byte) (s : State) : Host.Outcome State Fault Refusal :=
  taken p 0x0A <| directed p s <| noArguments args s <|
    done (s.setSettings { s.settings with staged := s.settings.active, apply := .none })

end Sys2Proof.Machine
end

