-- ==== Sys2Proof/Machine/Boundary.lean ====
section
/-! DEFINITION. The boundary event (R65): Applies that take effect, the output, the Break Table and the store, in order. -/

namespace Sys2Proof.Machine

open Sys2Proof

/-- R171: the pending Apply takes effect at a boundary that carries a sequence. -/
def applyTakes (form : PendingApply) (q : Seq) : Bool :=
  match form with
  | .none => false
  | .next => true
  | .atSeq x => atOrAfter q x

/-- R171, R65: an Apply that takes effect at the boundary, decided by the timeline as it stands before it acts. -/
def boundaryApply (tl : Timeline) (s : State) : State :=
  match (fixCarry s.profile.frameInterval tl).1 with
  | some q => if applyTakes s.settings.apply q then applyEffect (some q) s else s
  | none => s

/-- R109, R121: the Break Table at a boundary; a gap boundary is not handed to it. -/
def breaksAtBoundary (carried : Option Seq) (stopped : Bool) (s : State) : State :=
  match carried with
  | some q => countTimers (boundaryRule q stopped s)
  | none => s

/-- R65, R81 to R93, R109: a boundary of a timeline taken, with the level of the exciter-ready line (log 8). The
output that was Idle or Waiting when the boundary is taken forms nothing. -/
def takeBoundary (ready : Bool) (tl : Timeline) (s : State) : State :=
  let b := tl.nextBoundary
  let r := fixCarry s.profile.frameInterval tl
  let stopped := s.output.state.stopped
  let s1 := decideState (sampleReady ready (setTimeline (some r.2) s))
  let s2 := breaksAtBoundary r.1 stopped s1
  let s3 := if stopped then s2 else formInterval b r.1 s2
  advanceBoundary (forEach (freePast b stopped) s3)

/-- R65: the boundary event on the timeline as it stands, when a boundary is due. -/
def boundaryNow (ready : Bool) (s : State) : State :=
  match s.store.timeline with
  | some tl => if reached s.tb.localTime tl.nextBoundary then takeBoundary ready tl s else s
  | none => s

/-- R65: the boundary event: a pending Apply first, then the boundary on the timeline that it leaves (log 9). -/
def boundaryEvent (ready : Bool) (s : State) : State :=
  match s.store.timeline with
  | some tl => if reached s.tb.localTime tl.nextBoundary then boundaryNow ready (boundaryApply tl s) else s
  | none => s

/-- BOUNDARY (R65). -/
def execBoundary (ready : Bool) (s : State) : Host.Outcome State Fault Refusal := .next (boundaryEvent ready s)

end Sys2Proof.Machine
end

