-- ==== Sys2Proof/Machine/BreakCommands.lean ====
section
/-! DEFINITION. The break commands: Create, Amend, Cancel and Retire Break (R101 to R105). -/

namespace Sys2Proof.Machine

open Sys2Proof

/-- The values that Create Break and Amend Break carry. -/
structure BreakArgs where
  id       : BitVec 16
  sIn      : Seq
  frames   : BitVec 16
  windows  : BitVec 8
  segments : List (BitVec 32)
  deriving DecidableEq, Repr

/-- R101: the argument tests that Create Break and Amend Break share. -/
def breakArgsValid (a : BreakArgs) : Bool :=
  a.id != 0 && decide (1 ≤ a.frames.toNat ∧ a.frames.toNat ≤ 5000)
    && decide (1 ≤ a.segments.length ∧ a.segments.length ≤ 8) && a.segments.all (· != 0)

/-- The values of a break command whose segment count stands at byte `pos`; none when the argument length does not
match the segment count. -/
def breakArgsOf (args : List Byte) (pos : Nat) : Option BreakArgs :=
  let n := field args pos 1
  if args.length = pos + 1 + 4 * n then
    some ⟨BitVec.ofNat 16 (field args 0 2), BitVec.ofNat 16 (field args 2 2), BitVec.ofNat 16 (field args 4 2),
      BitVec.ofNat 8 (field args 6 1), segmentIds n (args.drop (pos + 1))⟩
  else none

/-- A break command's arguments tested (R101, R102). -/
def withBreakArgs (args : List Byte) (pos : Nat) (s : State) (f : BreakArgs → Answer) : Answer :=
  match breakArgsOf args pos with
  | some a => if breakArgsValid a then f a else refuse .badArgument s
  | none => refuse .badArgument s

/-- The origin of a break that a port creates or amends. -/
def portOrigin : Port → Origin
  | .a => .portA
  | .b => .portB

/-- R101: the conflicting records cancelled, as R103 states, the lowest record number first: the model's choice of the
order in which they join the terminal order (log 42). -/
def cancelAll (rs : List (Fin 16)) (s : State) : State :=
  rs.foldl (fun s r => match recOf s r with
    | some b => cancelRecord r b s
    | none => s) s

/-- A record is OnAir. -/
def isOnAir (s : State) (r : Fin 16) : Bool := (recOf s r).any (·.state == .onAir)

/-- R101: Create Break with its arguments tested. -/
def createBreak (p : Port) (replace : Bool) (a : BreakArgs) (s : State) : Answer :=
  if (findBreak s a.id).isSome then refuse .conflict s
  else if tooLate s a.sIn then refuse .tooLate s
  else
    let cs := conflicting s none a.windows a.sIn a.frames
    if cs ≠ [] ∧ (replace = false ∨ cs.any (isOnAir s) = true) then refuse .conflict s
    else
      let s1 := cancelAll cs s
      match recordForNew s1 with
      | none => refuse .tableFull s
      | some r => done (placeBreak r (newBreak a.id (portOrigin p) a.sIn a.frames a.windows a.segments) s1)

/-- CREATE_BREAK (R101). -/
def execCreateBreak (p : Port) (args : List Byte) (s : State) : Host.Outcome State Fault Refusal :=
  taken p 0x0F <| directed p s <|
    match flagOf (args.getD 7 0) with
    | none => refuse .badArgument s
    | some replace => withBreakArgs args 8 s fun a => createBreak p replace a s

/-- R102: the entries of an amended record: an entry whose position and segment id stand is kept, any other one is
set to Querying. -/
def amendEntries : List (BitVec 32) → List Entry → List Entry
  | [], _ => []
  | g :: gs, [] => newEntry g :: amendEntries gs []
  | g :: gs, e :: es => (if e.segment = g then e else newEntry g) :: amendEntries gs es

/-- R102, R107, R108: an amended record with its state. -/
def amendRecord (p : Port) (a : BreakArgs) (b : BreakRec) (s : State) : BreakRec :=
  let b1 := { b with
    origin := portOrigin p, sIn := a.sIn, frames := a.frames, windows := a.windows
    entries := amendEntries a.segments b.entries, state := .pending, total := none }
  if allReady b1 then
    { b1 with total := some (totalOf b1), state := if pastFetchingPoint s b1 then .fetching else .armed }
  else b1

/-- R102: Amend Break with its arguments tested. -/
def amendBreak (p : Port) (a : BreakArgs) (s : State) : Answer :=
  match findBreak s a.id with
  | none => refuse .noSuchBreak s
  | some r =>
    match recOf s r with
    | none => refuse .noSuchBreak s
    | some b =>
      if b.state ≠ .pending ∧ b.state ≠ .armed then refuse .wrongState s
      else if tooLate s a.sIn then refuse .tooLate s
      else if conflicting s (some r) a.windows a.sIn a.frames ≠ [] then refuse .conflict s
      else
        let b' := amendRecord p a b s
        let s1 := setRec r (some b') s
        done (if b'.state = b.state then s1 else raise srcBreak s1)

/-- AMEND_BREAK (R102). -/
def execAmendBreak (p : Port) (args : List Byte) (s : State) : Host.Outcome State Fault Refusal :=
  taken p 0x10 <| directed p s <| withBreakArgs args 7 s fun a => amendBreak p a s

/-- A break id of two bytes, not 0 (R103, R105). -/
def withBreakId (args : List Byte) (s : State) (f : Fin 16 → BreakRec → Answer) : Answer :=
  if args.length ≠ 2 ∨ field args 0 2 = 0 then refuse .badArgument s
  else
    match findBreak s (BitVec.ofNat 16 (field args 0 2)) with
    | none => refuse .noSuchBreak s
    | some r =>
      match recOf s r with
      | none => refuse .noSuchBreak s
      | some b => f r b

/-- CANCEL_BREAK (R103). -/
def execCancelBreak (p : Port) (args : List Byte) (s : State) : Host.Outcome State Fault Refusal :=
  taken p 0x11 <| directed p s <| withBreakId args s fun r b =>
    if b.state.live then done (cancelRecord r b s) else refuse .wrongState s

/-- RETIRE_BREAK (R105). -/
def execRetireBreak (p : Port) (args : List Byte) (s : State) : Host.Outcome State Fault Refusal :=
  taken p 0x12 <| directed p s <| withBreakId args s fun r b =>
    if b.state.live then refuse .wrongState s else done (freeRecord r s)

end Sys2Proof.Machine
end

