-- ==== Sys2Proof/Machine/Direction.lean ====
section
/-! DEFINITION. Direction and presence (R164 to R168, R158), and the meanings of their commands. -/

namespace Sys2Proof.Machine

open Sys2Proof

/-- Milliseconds in ticks (R167). -/
def msTicks (ms : Nat) : Int := (ms * Config.ticksPerMs : Nat)

/-- R167: the presence state of a port that becomes director at a local time. -/
def startPresence (p : Profile) (now : NetTime) : PresenceState := ⟨now, none, false, addTicks now (msTicks p.presenceHigh)⟩

/-- The pending claim replaced. -/
def setClaim (c : Option Port) (s : State) : State := s.setDirection { s.direction with claim := c }

/-- R164: a change of director. -/
def changeDirector (director : Option Port) (s : State) : State :=
  let claim := if s.direction.claim = director then none else s.direction.claim
  let presence := director.map fun _ => startPresence s.profile s.tb.localTime
  evalCondition mon15 false (raise srcDirection (s.setDirection ⟨director, claim, presence⟩))

/-- R166, R168: direction passes to the pending claimant, or to none. -/
def passDirection (s : State) : State := changeDirector s.direction.claim s

/-- R165: a claim by a port that finds the other port directing. -/
def claimPending (p : Port) (s : State) : State := raiseOn (otherPort p) srcClaim (setClaim (some p) s)

/-- CLAIM_DIRECTION (R165). -/
def execClaimDirection (p : Port) (args : List Byte) (s : State) : Host.Outcome State Fault Refusal :=
  taken p 0x03 <| match args with
    | [b] =>
      match flagOf b with
      | none => refuse .badArgument s
      | some force =>
        if s.direction.director = none then done (changeDirector (some p) s)
        else if s.direction.director = some p then done s
        else if force then done (changeDirector (some p) s)
        else ⟨.pending, [], claimPending p s⟩
    | _ => refuse .badArgument s

/-- RELEASE_DIRECTION (R166). -/
def execReleaseDirection (p : Port) (args : List Byte) (s : State) : Host.Outcome State Fault Refusal :=
  taken p 0x04 <| noArguments args s <|
    if s.direction.director = some p then done (passDirection s)
    else if s.direction.claim = some p then done (setClaim none s)
    else refuse .notDirecting s

/-- REFUSE_CLAIM (R166). -/
def execRefuseClaim (p : Port) (args : List Byte) (s : State) : Host.Outcome State Fault Refusal :=
  taken p 0x05 <| noArguments args s <|
    if s.direction.director ≠ some p then refuse .notDirecting s
    else
      match s.direction.claim with
      | some c => done (raiseOn c srcClaim (setClaim none s))
      | none => refuse .wrongState s

/-! ### Presence (R167, R168) -/

/-- M15 is in OFF. -/
def presenceOff (s : State) : Bool := (monSetting s mon15).mode == .off

/-- R158, R168: direction revoked from the port whose presence fault was evaluated, when it still directs. -/
def revoke (p : Port) (s : State) : State := if s.direction.director = some p then passDirection s else s

/-- R168, R158: a presence fault of a port. An active evaluation that leaves M15's latched-fault flag set revokes
direction; in OFF no evaluation is taken (log 19). -/
def presenceFault (p : Port) (s : State) : State :=
  let s1 := evalCondition mon15 true (raise srcPresence s)
  if presenceOff s = false ∧ (monRec s1 mon15).latched = true then revoke p s1 else s1

/-- R167: an accepted Presence with its marker. -/
def acceptPresence (marker : Bool) (s : State) : State :=
  let now := s.tb.localTime
  evalCondition mon15 false (s.setDirection { s.direction with
    presence := some ⟨now, some marker, false, addTicks now (msTicks s.profile.presenceHigh)⟩ })

/-- R167: a Presence that arrives below the lower bound. -/
def tooEarly (s : State) (v : PresenceState) : Bool :=
  decide (timeDiff s.tb.localTime v.reference < msTicks s.profile.presenceLow) && !v.relaxed

/-- R167: a Presence from the director, judged. -/
def judgePresence (p : Port) (marker : Bool) (s : State) : Answer :=
  match s.direction.presence with
  | none => done (acceptPresence marker s)
  | some v =>
    if presenceOff s then done (acceptPresence marker s)
    else if tooEarly s v || v.lastMarker == some marker then ⟨.wrongState, [], presenceFault p s⟩
    else done (acceptPresence marker s)

/-- PRESENCE (R167). -/
def execPresence (p : Port) (args : List Byte) (s : State) : Host.Outcome State Fault Refusal :=
  taken p 0x06 <| match args with
    | [b] =>
      match flagOf b with
      | none => refuse .badArgument s
      | some marker => if s.direction.director = some p then judgePresence p marker s else refuse .notDirecting s
    | _ => refuse .badArgument s

/-- R167: local time has reached the presence deadline. -/
def presenceDue (s : State) : Bool := s.direction.presence.any fun v => reached s.tb.localTime v.deadline

/-- R167: a missing Presence moves the reference and the deadline and sets the relaxed mark (log 28). -/
def relaxPresence (s : State) : State :=
  s.setDirection { s.direction with
    presence := s.direction.presence.map fun v => { v with
      reference := s.tb.localTime
      relaxed := true
      deadline := addTicks v.deadline (msTicks s.profile.presenceHigh) } }

/-- R167, R168: a missing Presence, a presence fault of the director unless M15 is in OFF. -/
def missPresence (s : State) : State :=
  let s1 := relaxPresence s
  match s.direction.director with
  | none => s1
  | some p => if presenceOff s then s1 else presenceFault p s1

/-- PRESENCE_MISSING (R167). -/
def execPresenceMissing (s : State) : Host.Outcome State Fault Refusal :=
  .next (if presenceDue s then missPresence s else s)

end Sys2Proof.Machine
end

