-- ==== Sys2Proof/Machine/Report.lean ====
section
/-! DEFINITION. The reading commands: Read Status, Read Break, List Breaks, Read Monitor and Read Timebase (R32, R115,
R161, R163). Their layouts follow R162 (logs 16, 17 and 18). -/

namespace Sys2Proof.Machine

open Sys2Proof

/-- A sequence (R162). -/
def seqField (q : Seq) : List Byte := byte2 q.toNat

/-- A 16-bit counter (R162). -/
def countField (c : Counter) : List Byte := byte2 c.toNat

/-- The pending Apply: none, next boundary, or at sequence X (R163; log 18). -/
def applyField (a : PendingApply) : List Byte :=
  match a with
  | .none => byte1 0 ++ optField 2 none
  | .next => byte1 1 ++ optField 2 none
  | .atSeq x => byte1 2 ++ optField 2 (some (seqField x))

/-- Part 0: the site summary (R163). -/
def statusSummary (s : State) : List Byte :=
  byte1 (outCode s.output.state) ++ byte1 (causeBits s.output.causes) ++ byte1 (tbCode s.tb.state)
    ++ byte1 (if s.store.timeline.isSome then 1 else 0) ++ optField 2 ((timelineSeq s).map seqField)
    ++ byte1 (portCode s.direction.director) ++ byte1 (portCode s.direction.claim)
    ++ applyField s.settings.apply ++ optField 8 (s.direction.presence.map fun v => timeField v.deadline)

/-- One feed input (R54). -/
def feedReport (f : FeedInput) : List Byte :=
  byte1 (acqCode f.acq) ++ countField f.goodRun ++ countField f.badRun ++ countField f.goodFrames
    ++ countField f.badFrames ++ countField f.headerFailures ++ countField f.checkFailures
    ++ countField f.foreignNetwork ++ countField f.cuesSkipped

/-- Part 1: both feed inputs and Path Merge (R54). That a setting is sent here in one byte, and not in the four of a setting
value, is the model's choice (log 17). -/
def statusFeeds (s : State) : List Byte :=
  feedReport s.feeds.fst ++ feedReport s.feeds.snd
    ++ byte1 (if s.profile.pathMode = .merge then 0 else 1) ++ byte1 (inputCode s.profile.preferred)
    ++ switchField s.profile.revertive ++ byte1 (inputCode s.merge.active)
    ++ optField 2 (s.merge.revert.map countField) ++ countField s.merge.switches

/-- A slot's state, Free first (04, section 4.1). -/
def slotCode : Slot → Nat
  | .free => 0
  | .filling _ _ => 1
  | .held _ _ _ => 2
  | .emitting _ _ _ => 3

/-- A slot's shadow mark. -/
def Slot.shadow : Slot → Bool
  | .filling _ sh => sh
  | _ => false

/-- One slot in six bytes (R163, R75). -/
def slotReport (s : State) (i : Fin 64) : List Byte :=
  byte1 i.val ++ byte1 (slotCode (slotAt s i)) ++
    match (slotAt s i).info? with
    | none => [0, 0, 0, 0]
    | some info => seqField info.seq ++ byte1 (inputCode info.source) ++ markField (slotAt s i).shadow

/-- Parts 2 to 5: sixteen slots from a first number on (R163). -/
def statusSlots (first : Nat) (s : State) : List Byte :=
  (((numbers 64).filter fun i => decide (first ≤ i.val ∧ i.val < first + 16)).map (slotReport s)).flatten

/-- The first twelve entries of the gap list, after the number of all its entries (R163; log 18). Of a number above 255
the low 8 bits are sent, and of a count above 65,535 the low 16, by the model's choice (log 17). -/
def gapReport (gaps : List GapEntry) : List Byte :=
  byte1 gaps.length ++ ((gaps.take 12).map fun g => seqField g.seq ++ byte2 g.count).flatten

/-- Part 6: the timeline, the store's counters and the gap list's first entries, in the order of R163 (R75; log 18). Of
running gaps above 65,535 the low 16 bits are sent, by the model's choice (log 17). -/
def statusTimeline (s : State) : List Byte :=
  let tl := s.store.timeline
  byte1 (if tl.isSome then 1 else 0) ++ optField 10 (tl.map fun t => seqField t.anchorSeq ++ timeField t.anchorTime)
    ++ optField 8 (tl.map fun t => timeField t.nextBoundary) ++ optField 2 (tl.map fun t => seqField t.lastSeq)
    ++ byte2 ((tl.map (·.runningGaps)).getD 0)
    ++ countField s.store.framesHeld ++ countField s.store.duplicates ++ countField s.store.freedUnsent
    ++ countField s.store.plannedDrops ++ gapReport ((tl.map (·.gaps)).getD [])

/-- Part 7: the Emission Output (R92). -/
def statusOutput (s : State) : List Byte :=
  let o := s.output
  byte1 (outCode o.state) ++ byte1 (causeBits o.causes) ++ countField o.delivered ++ countField o.muted
    ++ countField o.missing ++ countField o.gap ++ countField o.notReady
    ++ optField 14 (o.interval.map fun v =>
      timeField v.boundary ++ optField 2 (v.seq.map seqField) ++ byte1 (kindCode v.kind) ++ byte2 v.next)

/-- One request slot (R135); its entry position is sent counted from 0 (log 18). -/
def requestReport (q : Option Request) : List Byte :=
  match q with
  | none => List.replicate 29 0
  | some q =>
    byte1 1 ++ byte1 (if q.kind.isFetch then 1 else 0) ++ byte1 q.record.val ++ byte2 q.breakId.toNat
      ++ byte1 q.entry.val ++ byte4 q.segment.toNat
      ++ (match q.kind with
        | .query => optField 4 none ++ optField 2 none
        | .fetch offset count => optField 4 (some (byte4 offset)) ++ optField 2 (some (byte2 count)))
      ++ byte1 (sendCode q.send) ++ optField 8 (q.deadline.map timeField) ++ markField q.aborted

/-- Part 8: the Advert Link and the free places of the pool (R135, R163). -/
def statusLink (s : State) : List Byte :=
  let l := s.link
  requestReport (l.slots.get 0) ++ requestReport (l.slots.get 1) ++ listField (l.created.map fun r => byte1 r.val)
    ++ countField l.retries ++ markField l.rollover ++ countField l.unsolicited ++ countField l.queries
    ++ countField l.fetches ++ countField l.aborts ++ countField l.shorts ++ countField l.timeouts
    ++ countField l.withdraws ++ byte2 (freePlaces s.memory)

/-- Part 9: each record's filled unread packets, reserved places and number of extents (R135, R163). -/
def statusQueues (s : State) : List Byte :=
  ((numbers 16).map fun r =>
    byte2 (queueUnread (queueOf s r)) ++ byte2 (queueReserved (queueOf s r)) ++ byte2 (queueOf s r).length).flatten

/-- Part 10: the Splice Unit (R149). -/
def statusSplice (s : State) : List Byte :=
  countField s.splice.dropped ++ countField s.splice.restamped ++ countField s.splice.underruns
    ++ byte2 s.splice.continuity.length

/-- R163: the part of Read Status that a number names. -/
def statusPart (part : Nat) (s : State) : Option (List Byte) :=
  match part with
  | 0 => some (statusSummary s)
  | 1 => some (statusFeeds s)
  | 2 => some (statusSlots 0 s)
  | 3 => some (statusSlots 16 s)
  | 4 => some (statusSlots 32 s)
  | 5 => some (statusSlots 48 s)
  | 6 => some (statusTimeline s)
  | 7 => some (statusOutput s)
  | 8 => some (statusLink s)
  | 9 => some (statusQueues s)
  | 10 => some (statusSplice s)
  | _ => none

/-- A reading command answers Done with its data, or BadArgument; it changes nothing. -/
def report (data : Option (List Byte)) (s : State) : Answer :=
  match data with
  | some d => ⟨.done, d, s⟩
  | none => refuse .badArgument s

/-- READ_STATUS (R163). -/
def execReadStatus (p : Port) (args : List Byte) (s : State) : Host.Outcome State Fault Refusal :=
  taken p 0x02 <| match args with
    | [part] => report (statusPart part.toNat s) s
    | _ => refuse .badArgument s

/-! ### Read Timebase (R32) -/

/-- The data of Read Timebase, in the order of R32; the adjustment n takes 4 bytes (log 17). -/
def timebaseReport (tb : Timebase) : List Byte :=
  byte1 (tbCode tb.state) ++ timeField tb.localTime ++ beSigned 4 tb.freq ++ beSigned 4 tb.phase
    ++ beSigned 1 tb.carry ++ beSigned 4 tb.adjust ++ byte1 (if tb.acquired.isSome then 1 else 0)
    ++ optField 4 (tb.acquired.map fun l => byte4 l.toNat) ++ optField 4 (tb.expected.map fun l => byte4 l.toNat)
    ++ byte1 tb.outlierRun ++ countField tb.missRun
    ++ optField 4 (tb.holdover.map fun h => byte4 h.seconds.toNat)
    ++ optField 4 (tb.holdover.map fun h => byte4 h.uncertainty.toNat) ++ markField tb.tracked
    ++ optField 16 (tb.lastPulse.map fun l => timeField l.time ++ beSigned 8 l.error)
    ++ countField tb.accepted ++ countField tb.outliers ++ countField tb.missing ++ countField tb.steps

/-- READ_TIMEBASE (R32). Arguments, for which R32 names no result, are answered with BadArgument: the model's choice
(log 39). -/
def execReadTimebase (p : Port) (args : List Byte) (s : State) : Host.Outcome State Fault Refusal :=
  taken p 0x17 (noArguments args s ⟨.done, timebaseReport s.tb, s⟩)

/-! ### Read Break and List Breaks (R115) -/

/-- Part 0 of Read Break. -/
def breakReport (r : Fin 16) (b : BreakRec) : List Byte :=
  byte1 r.val ++ byte2 b.id.toNat ++ byte1 (originCode b.origin) ++ byte1 (breakCode (some b.state)) ++ seqField b.sIn
    ++ byte2 b.frames.toNat ++ byte1 b.windows.toNat ++ byte1 b.entries.length ++ optField 4 (b.total.map byte4)
    ++ byte2 b.framesOnAir ++ byte4 b.replaced ++ byte4 b.emitted ++ byte4 b.underruns ++ byte4 b.tails
    ++ byte2 b.surplus ++ markField b.earlyMark ++ markField b.underrunMark
    ++ optField 1 (b.cause.map fun c => byte1 (termCode c)) ++ optField 2 (b.termSeq.map seqField)

/-- An entry of a record (R115). -/
def entryReport (e : Entry) : List Byte :=
  byte4 e.segment.toNat ++ byte1 (entryCode e.state) ++ optField 4 (e.count.map byte4) ++ byte4 e.nextOffset
    ++ byte1 e.attempts

/-- Parts 1 and 2 of Read Break: four entries from a position on, absent beyond the list. -/
def entriesReport (first : Nat) (b : BreakRec) : List Byte :=
  ((List.range 4).map fun k => optField 15 ((b.entries[first + k]?).map entryReport)).flatten

/-- The part of Read Break that a number names. -/
def breakPart (part : Nat) (r : Fin 16) (b : BreakRec) : Option (List Byte) :=
  match part with
  | 0 => some (breakReport r b)
  | 1 => some (entriesReport 0 b)
  | 2 => some (entriesReport 4 b)
  | _ => none

/-- READ_BREAK (R115). A part number above 2 or another argument length is tested before the id (log 38). -/
def execReadBreak (p : Port) (args : List Byte) (s : State) : Host.Outcome State Fault Refusal :=
  taken p 0x13 <| match args with
    | [a, b, part] =>
      if 2 < part.toNat then refuse .badArgument s
      else
        match findBreak s (BitVec.ofNat 16 (beNat [a, b])) with
        | none => refuse .noSuchBreak s
        | some r =>
          match recOf s r with
          | none => refuse .noSuchBreak s
          | some rec => report (breakPart part.toNat r rec) s
    | _ => refuse .badArgument s

/-- The data of List Breaks (R115). -/
def breakList (s : State) : List Byte :=
  let k := s.breaks.cues
  ((numbers 16).map fun r =>
      byte1 (breakCode ((recOf s r).map (·.state))) ++ byte2 (((recOf s r).map fun b => b.id.toNat).getD 0)).flatten
    ++ countField k.notForZone ++ countField k.repeats ++ countField k.mismatches ++ countField k.amends
    ++ countField k.tooLate ++ countField k.conflicts ++ countField k.tableFull ++ countField k.noSuchBreak
    ++ countField k.ignored ++ listField (s.breaks.terminalOrder.map fun r => byte1 r.val)

/-- LIST_BREAKS (R115). Arguments, for which R115 names no result, are answered with BadArgument: the model's choice
(log 39). -/
def execListBreaks (p : Port) (args : List Byte) (s : State) : Host.Outcome State Fault Refusal :=
  taken p 0x14 (noArguments args s ⟨.done, breakList s, s⟩)

/-! ### Read Monitor (R161) -/

/-- A monitor's line of argument 0; its mode in one byte (log 17). -/
def monitorLine (s : State) (m : MonNo) : List Byte :=
  byte1 (modeValue (monSetting s m).mode).toNat ++ conditionField (monRec s m).condition
    ++ markField (monRec s m).latched ++ markField (monRec s m).warning ++ countField (monRec s m).events

/-- A monitor's record; its mode and its persistence in one byte each, by the model's choice (log 17). -/
def monitorReport (s : State) (m : MonNo) : List Byte :=
  byte1 (modeValue (monSetting s m).mode).toNat ++ byte1 (monSetting s m).persistence ++ byte1 (monRec s m).count
    ++ conditionField (monRec s m).condition ++ markField (monRec s m).latched ++ markField (monRec s m).warning
    ++ countField (monRec s m).events

/-- The first-fault record or its emptiness; monitors are numbered from 1. -/
def firstFaultReport (s : State) : List Byte :=
  optField 12 (s.monitors.first.map fun f =>
    byte1 (f.monitor.val + 1) ++ optField 2 (f.seq.map seqField) ++ timeField f.time)

/-- The data of Read Monitor for its argument; none above 17. -/
def monitorPart (arg : Nat) (s : State) : Option (List Byte) :=
  if arg = 0 then some ((numbers 16).map (monitorLine s)).flatten
  else if h : arg - 1 < 16 then some (monitorReport s ⟨arg - 1, h⟩)
  else if arg = 17 then some (firstFaultReport s)
  else none

/-- READ_MONITOR (R161). -/
def execReadMonitor (p : Port) (args : List Byte) (s : State) : Host.Outcome State Fault Refusal :=
  taken p 0x15 <| match args with
    | [m] => report (monitorPart m.toNat s) s
    | _ => refuse .badArgument s

end Sys2Proof.Machine
end

