-- ==== Sys2Proof/Machine/Reset.lean ====
section
/-! DEFINITION. The two kinds of reset: the full reset (R14 and the other blocks' rules) and the Site Restart (R177). -/

namespace Sys2Proof.Machine

open Sys2Proof

/-- A full reset: every block at its full-reset values; the model's queue of commands and free-value counter go on
(log 33). -/
def fullReset (s : State) : State := { State.reset with freeCount := s.freeCount, pending := s.pending }

/-- FULL_RESET (R14). -/
def execFullReset (s : State) : Host.Outcome State Fault Refusal := .next (fullReset s)

/-- R76, R88, R89: the output at a Site Restart; an interval in delivery goes on without its slot. -/
def restartOutput (o : Output) : Output :=
  { Output.reset with
    interval := o.interval.map fun v => { v with slot := none }
    dataLines := o.dataLines
    marker := o.marker }

/-- R117, R9: the Advert Link at a Site Restart; a message partly sent is completed. -/
def restartLink (l : AdvertLink) : AdvertLink :=
  { AdvertLink.reset with line := l.line.map fun m => { m with slot := none } }

/-- R173: a port's pending marks cleared. -/
def clearMarks (a : PortAlerts) : PortAlerts := { a with marks := Tab.const 17 false }

/-- R177: a Site Restart. What is partly received on a line is abandoned (R8, R9, R33). -/
def siteRestart (s : State) : State :=
  let deadline := addTicks s.tb.localTime (silenceTicks s.profile)
  { s with
    tod      := .none
    feeds    := ⟨FeedInput.reset deadline, FeedInput.reset deadline⟩
    merge    := PathMerge.reset s.profile.preferred
    store    := FrameStore.reset
    output   := restartOutput s.output
    breaks   := BreakTable.reset
    link     := restartLink s.link
    memory   := AdvertMemory.reset
    splice   := SpliceUnit.reset
    monitors := MonitorUnit.reset
    settings := { s.settings with apply := .none }
    lines    := Lines.reset
    alerts   := { s.alerts with ports := ⟨clearMarks s.alerts.ports.fst, clearMarks s.alerts.ports.snd⟩ } }

/-- RESTART_SITE (R177). -/
def execRestartSite (p : Port) (args : List Byte) (s : State) : Host.Outcome State Fault Refusal :=
  taken p 0x1C <| directed p s <| noArguments args s <| done (siteRestart s)

end Sys2Proof.Machine
end

