-- ==== Sys2Proof/Machine/Dispatch.lean ====
section
/-! DEFINITION. One arm per command, each a direct call of its meaning. -/

namespace Sys2Proof.Machine

open Sys2Proof

def exec (i : Instr) (s : State) : Host.Outcome State Fault Refusal :=
  match i with
  | .fullReset => Sys2Proof.Machine.execFullReset s
  | .adjustmentPeriodEnd => Sys2Proof.Machine.execAdjustmentPeriodEnd s
  | .secondsChange => Sys2Proof.Machine.execSecondsChange s
  | .timeOfDayMessage bytes => Sys2Proof.Machine.execTimeOfDayMessage bytes s
  | .referencePulse => Sys2Proof.Machine.execReferencePulse s
  | .missingPulseDeadline => Sys2Proof.Machine.execMissingPulseDeadline s
  | .headerAccepted input bytes => Sys2Proof.Machine.execHeaderAccepted input bytes s
  | .frameCompletion input bytes => Sys2Proof.Machine.execFrameCompletion input bytes s
  | .silenceInterval input => Sys2Proof.Machine.execSilenceInterval input s
  | .boundary exciterReady => Sys2Proof.Machine.execBoundary exciterReady s
  | .requeryTimerExpiry record entry => Sys2Proof.Machine.execRequeryTimerExpiry record entry s
  | .packetPresentation => Sys2Proof.Machine.execPacketPresentation s
  | .muteLineAssert => Sys2Proof.Machine.execMuteLineAssert s
  | .messageSend => Sys2Proof.Machine.execMessageSend s
  | .messageSent => Sys2Proof.Machine.execMessageSent s
  | .ready tag segment count => Sys2Proof.Machine.execReady tag segment count s
  | .unknown tag segment => Sys2Proof.Machine.execUnknown tag segment s
  | .burst tag breakId segment offset packets => Sys2Proof.Machine.execBurst tag breakId segment offset packets s
  | .withdraw segment => Sys2Proof.Machine.execWithdraw segment s
  | .corruptMessage bytes => Sys2Proof.Machine.execCorruptMessage bytes s
  | .replyTimeout slot => Sys2Proof.Machine.execReplyTimeout slot s
  | .statusByteFormed port => Sys2Proof.Machine.execStatusByteFormed port s
  | .frameError port bytes => Sys2Proof.Machine.execFrameError port bytes s
  | .unknownCommand port code args => Sys2Proof.Machine.execUnknownCommand port code args s
  | .noOperation port args => Sys2Proof.Machine.execNoOperation port args s
  | .readStatus port args => Sys2Proof.Machine.execReadStatus port args s
  | .claimDirection port args => Sys2Proof.Machine.execClaimDirection port args s
  | .releaseDirection port args => Sys2Proof.Machine.execReleaseDirection port args s
  | .refuseClaim port args => Sys2Proof.Machine.execRefuseClaim port args s
  | .presence port args => Sys2Proof.Machine.execPresence port args s
  | .presenceMissing => Sys2Proof.Machine.execPresenceMissing s
  | .writeSetting port args => Sys2Proof.Machine.execWriteSetting port args s
  | .readSetting port args => Sys2Proof.Machine.execReadSetting port args s
  | .applyStaged port args => Sys2Proof.Machine.execApplyStaged port args s
  | .discardStaged port args => Sys2Proof.Machine.execDiscardStaged port args s
  | .startEmission port args => Sys2Proof.Machine.execStartEmission port args s
  | .stopEmission port args => Sys2Proof.Machine.execStopEmission port args s
  | .setMute port args => Sys2Proof.Machine.execSetMute port args s
  | .forcePath port args => Sys2Proof.Machine.execForcePath port args s
  | .createBreak port args => Sys2Proof.Machine.execCreateBreak port args s
  | .amendBreak port args => Sys2Proof.Machine.execAmendBreak port args s
  | .cancelBreak port args => Sys2Proof.Machine.execCancelBreak port args s
  | .retireBreak port args => Sys2Proof.Machine.execRetireBreak port args s
  | .readBreak port args => Sys2Proof.Machine.execReadBreak port args s
  | .listBreaks port args => Sys2Proof.Machine.execListBreaks port args s
  | .readMonitor port args => Sys2Proof.Machine.execReadMonitor port args s
  | .clearFaults port args => Sys2Proof.Machine.execClearFaults port args s
  | .readTimebase port args => Sys2Proof.Machine.execReadTimebase port args s
  | .setAlertRouting port args => Sys2Proof.Machine.execSetAlertRouting port args s
  | .setAlertMask port args => Sys2Proof.Machine.execSetAlertMask port args s
  | .takeAlert port args => Sys2Proof.Machine.execTakeAlert port args s
  | .setAlertPriority port args => Sys2Proof.Machine.execSetAlertPriority port args s
  | .restartSite port args => Sys2Proof.Machine.execRestartSite port args s
  | .adjustmentPosition => Sys2Proof.Machine.execAdjustmentPosition s

end Sys2Proof.Machine
end

