-- ==== Sys2Proof/Machine/Step.lean ====
section
/-! DEFINITION. One step: the command at the front of the queue, or, on an empty queue, an event that is due or one
oscillator cycle (logs 1, 2 and 3). -/

namespace Sys2Proof.Machine

open Sys2Proof

/-- A command in a list of its own when it is due. -/
def dueIf (due : Bool) (c : Instr) : List Instr := if due then [c] else []

/-- The events of the device's own that are due now. MESSAGE_SENT comes from outside (log 7). -/
def dueEvents (s : State) : List Instr :=
  dueIf (periodDone s.tb) .adjustmentPeriodEnd
    ++ dueIf (s.tb.secondsDue != 0) .secondsChange
    ++ dueIf (missDue s) .missingPulseDeadline
    ++ dueIf (silenceDue s .one) (.silenceInterval .one)
    ++ dueIf (silenceDue s .two) (.silenceInterval .two)
    ++ dueIf (boundaryDue s) (.boundary (Config.exciterReady s.freeCount))
    ++ dueIf (presentationDue s) .packetPresentation
    ++ dueIf (muteLineDue s) .muteLineAssert
    ++ dueIf (sendDue s) .messageSend
    ++ ((numbers 2).filter (timeoutDue s)).map .replyTimeout
    ++ (numbers 16).flatMap (fun r =>
        ((numbers 8).filter fun e => (recOf s r).any fun b => (entryOf b e).any fun x => x.timer == some 0).map
          (Instr.requeryTimerExpiry r))
    ++ dueIf (presenceDue s) .presenceMissing

/-- R12: one cycle of the oscillator. -/
def oscillator (s : State) : Host.Outcome State Fault Refusal :=
  if atPosition s.tb then exec .adjustmentPosition s else .next (s.setTb (plainCycle s.tb))

/-- A step on an empty queue: an event that is due, chosen by a free value among several, or one oscillator cycle. -/
def idle (s : State) : Host.Outcome State Fault Refusal :=
  match dueEvents s with
  | [] => oscillator s
  | [c] => exec c (s.setFreeCount (s.freeCount + 1))
  | c :: d :: rest =>
    exec ((c :: d :: rest).getD (Config.freeOrder s.freeCount % (rest.length + 2)) c)
      (s.setFreeCount (s.freeCount + 1))

/-- One step: the command at the front of the queue is taken with the queue's rest. -/
def step (s : State) : Host.Outcome State Fault Refusal :=
  match s.pending with
  | c :: rest => exec c (s.setPending rest)
  | [] => idle s

/-- `s` with the command that a word spells at the front of its queue; `s` itself where it spells none (log 34). -/
def State.withFetchWord (s : State) (nbits w : Nat) : State :=
  match decodeTableWord nbits w with
  | some c => s.setPending (c :: s.pending)
  | none => s

end Sys2Proof.Machine
end

