-- ==== Sys2Proof/WellFormed.lean ====
section
/-! DEFINITION. Well-formed commands: what the operands of each command must be for it to be that command. -/

namespace Sys2Proof

open Sys2Proof.Machine

/-- A port carries 0 to 48 argument bytes (01, section 1.8). -/
def argsFit (args : List Byte) : Bool := decide (args.length ≤ 48)

/-- A service packet has 184 payload bytes (01, section 1.4). -/
def payloadFits (p : ServicePacket) : Bool := p.payload.length == Config.payloadBytes

/-- A line's command carries at least the byte that completes its event (R6, R8). -/
def lineFits (bytes : List Byte) : Bool := !bytes.isEmpty

/-- The longest message: a body length of 16,777,215 (R9). -/
def longestMessage : Nat := 8 + 16777215

/-- The operands of a command are those of its row's event (R6, R8, R9, R10, R162). -/
def Instr.wellFormed : Instr → Bool
  | .fullReset => true
  | .adjustmentPeriodEnd => true
  | .secondsChange => true
  | .timeOfDayMessage bytes => lineFits bytes
  | .referencePulse => true
  | .missingPulseDeadline => true
  | .headerAccepted _ bytes => lineFits bytes
  | .frameCompletion _ bytes => lineFits bytes
  | .silenceInterval _ => true
  | .boundary _ => true
  | .requeryTimerExpiry _ _ => true
  | .packetPresentation => true
  | .muteLineAssert => true
  | .messageSend => true
  | .messageSent => true
  | .ready _ _ count => readyFits count
  | .unknown _ _ => true
  | .burst _ _ _ _ packets => burstFits packets && packets.all payloadFits
  | .withdraw _ => true
  | .corruptMessage bytes => lineFits bytes && decide (bytes.length ≤ longestMessage)
  | .replyTimeout _ => true
  | .statusByteFormed _ => true
  | .frameError _ bytes => isFrameError bytes
  | .unknownCommand _ code args => !knownCode code && argsFit args
  | .noOperation _ args => argsFit args
  | .readStatus _ args => argsFit args
  | .claimDirection _ args => argsFit args
  | .releaseDirection _ args => argsFit args
  | .refuseClaim _ args => argsFit args
  | .presence _ args => argsFit args
  | .presenceMissing => true
  | .writeSetting _ args => argsFit args
  | .readSetting _ args => argsFit args
  | .applyStaged _ args => argsFit args
  | .discardStaged _ args => argsFit args
  | .startEmission _ args => argsFit args
  | .stopEmission _ args => argsFit args
  | .setMute _ args => argsFit args
  | .forcePath _ args => argsFit args
  | .createBreak _ args => argsFit args
  | .amendBreak _ args => argsFit args
  | .cancelBreak _ args => argsFit args
  | .retireBreak _ args => argsFit args
  | .readBreak _ args => argsFit args
  | .listBreaks _ args => argsFit args
  | .readMonitor _ args => argsFit args
  | .clearFaults _ args => argsFit args
  | .readTimebase _ args => argsFit args
  | .setAlertRouting _ args => argsFit args
  | .setAlertMask _ args => argsFit args
  | .takeAlert _ args => argsFit args
  | .setAlertPriority _ args => argsFit args
  | .restartSite _ args => argsFit args
  | .adjustmentPosition => true

end Sys2Proof
end

