-- ==== Sys2Proof/Safety.lean ====
section
/-! DEFINITION. The terms that statements use: answers of a port, operands as bytes, and the invariants that every
step is to keep. -/

namespace Sys2Proof.Machine

open Sys2Proof

/-! ### Answers and operands -/

/-- The ports after a command of a code has been taken on a port with a result and data (R10). -/
def answered (p : Port) (code : Byte) (r : Result) (data : List Byte) (ports : Two PortState) : Two PortState :=
  setPortOf ports p { portOf ports p with response := ⟨code, r, data⟩, frameErr := false }

/-- The segment ids of a break command, 4 bytes each (10.1). -/
def segmentBytes (segments : List (BitVec 32)) : List Byte := (segments.map fun g => beBytes 4 g.toNat).flatten

/-- The argument bytes of Create Break (10.1). -/
def createBytes (a : BreakArgs) (replace : Bool) : List Byte :=
  beBytes 2 a.id.toNat ++ beBytes 2 a.sIn.toNat ++ beBytes 2 a.frames.toNat ++
    [a.windows, (if replace then 1 else 0), BitVec.ofNat 8 a.segments.length] ++ segmentBytes a.segments

/-- The argument bytes of Amend Break (10.1). -/
def amendBytes (a : BreakArgs) : List Byte :=
  beBytes 2 a.id.toNat ++ beBytes 2 a.sIn.toNat ++ beBytes 2 a.frames.toNat ++
    [a.windows, BitVec.ofNat 8 a.segments.length] ++ segmentBytes a.segments

/-- The argument bytes of a command that carries a break id alone (10.1). -/
def idBytes (id : BitVec 16) : List Byte := beBytes 2 id.toNat

/-- The argument bytes of Write Setting (10.1). -/
def settingBytes (id : Nat) (v : Int) : List Byte := beBytes 2 id ++ beSigned 4 v

/-- The bytes of a command frame with its check and its fill (01, section 1.8). -/
def frameBytes (code : Byte) (args : List Byte) (fill : Nat) : List Byte :=
  let covered := code :: BitVec.ofNat 8 args.length :: args
  covered ++ [crc8 covered] ++ List.replicate fill 0

/-- The bytes of a time-of-day message (01, section 1.6). -/
def todBytes (flags : Byte) (label : BitVec 32) (reserved check : Byte) : List Byte :=
  [0xA5, flags] ++ beBytes 4 label.toNat ++ [reserved, check]

/-! ### Terms of the lines -/

/-- The lines with the bytes kept of a feed line replaced. -/
def feedKept (i : InputNo) (kept : List Byte) (l : Lines) : Lines := { l with feeds := setInputOf l.feeds i kept }

/-- The lines with nothing kept of the incoming advert line. -/
def heard (l : Lines) : Lines := { l with advert := [] }

/-- R6: bytes complete a header on a feed line that has no frame past its header; its sync word is the first of the
line's bytes, those kept among them. -/
def endsHeader (s : State) (i : InputNo) (bytes h : List Byte) : Prop :=
  (feedOf s i).inProgress = none ∧ isHeader h = true ∧ ∃ before, inputOf s.lines.feeds i ++ bytes = before ++ h ∧
    ∀ k, k < before.length → ((before ++ h).drop k).take 2 ≠ [0xC3, 0x5E]

/-- R6: bytes complete the frame past its accepted header on a feed line: with those kept they are what follows it. -/
def endsFrame (s : State) (i : InputNo) (bytes : List Byte) (fr : InProgress) (rest : List Byte) (body : FrameBody) :
    Prop :=
  (feedOf s i).inProgress = some fr ∧ inputOf s.lines.feeds i ++ bytes = rest ∧ frameBody fr.header rest = some body

/-- The bytes of a message as they stand on the line, whatever its check (01, section 1.7). -/
def rawBytes (m : RawMessage) : List Byte := messageCovered m.kind m.body ++ beBytes 4 m.check.toNat

/-- R9: a message's bytes complete on the incoming advert line. -/
def endsMessage (s : State) (bytes : List Byte) (m : RawMessage) : Prop :=
  m.body.length < 16777216 ∧ s.lines.advert ++ bytes = rawBytes m

/-! ### Terms of the timebase, the feeds and the monitors -/

/-- R13: what an unfinished period returns to the carry: 100 for each unapplied gain, −100 for each unapplied loss. -/
def returned (tb : Timebase) : Int :=
  if tb.cycle = none then 0
  else (if 0 ≤ tb.adjust then 100 else -100) * ((tb.adjust.natAbs - tb.applied : Nat) : Int)

/-- R29: a held time after a move of the clock by e ticks. -/
def movedDeadline (e : Int) (d : Option NetTime) : Option NetTime := d.map fun x => addTicks x e

/-- R36 to R40: an input before and after a bad frame, with the loss count L. -/
def badFrameTaken (l : Nat) (f g : FeedInput) : Prop :=
  (f.acq = .searching → g.acq = .searching ∧ g.goodRun = 0 ∧ g.badRun = 0) ∧
  (f.acq = .verifying → g.acq = .searching ∧ g.goodRun = 0 ∧ g.badRun = 0) ∧
  (f.acq = .lost → g.acq = .lost ∧ g.goodRun = 0 ∧ g.badRun = 0) ∧
  (f.acq = .locked → l ≤ 1 → g.acq = .lost ∧ g.goodRun = 0 ∧ g.badRun = 0) ∧
  (f.acq = .locked → 1 < l → g.acq = .impaired ∧ g.goodRun = 0 ∧ g.badRun = 1) ∧
  (f.acq = .impaired → l ≤ (satInc f.badRun).toNat → g.acq = .lost ∧ g.goodRun = 0 ∧ g.badRun = 0) ∧
  (f.acq = .impaired → (satInc f.badRun).toNat < l → g.acq = .impaired ∧ g.goodRun = 0 ∧ g.badRun = satInc f.badRun)

/-- R36 to R40: an input before and after a good frame, with the verify count V. -/
def goodFrameTaken (v : Nat) (f g : FeedInput) : Prop :=
  (f.acq = .searching ∨ f.acq = .lost → v ≤ 1 → g.acq = .locked ∧ g.goodRun = 0 ∧ g.badRun = 0) ∧
  (f.acq = .searching ∨ f.acq = .lost → 1 < v → g.acq = .verifying ∧ g.goodRun = 1 ∧ g.badRun = 0) ∧
  (f.acq = .verifying ∨ f.acq = .impaired → v ≤ (satInc f.goodRun).toNat →
    g.acq = .locked ∧ g.goodRun = 0 ∧ g.badRun = 0) ∧
  (f.acq = .verifying → (satInc f.goodRun).toNat < v →
    g.acq = .verifying ∧ g.goodRun = satInc f.goodRun ∧ g.badRun = f.badRun) ∧
  (f.acq = .impaired → (satInc f.goodRun).toNat < v →
    g.acq = .impaired ∧ g.goodRun = satInc f.goodRun ∧ g.badRun = 0) ∧
  (f.acq = .locked → g.acq = .locked ∧ g.goodRun = f.goodRun ∧ g.badRun = f.badRun)

/-- R152: what an active evaluation of a condition monitor in a mode other than OFF leaves of its items: nothing moves
while the condition is active; a count below the persistence grows; at the persistence the condition becomes active
and an event is counted. -/
def activeTaken (m : MonNo) (s t : State) : Prop :=
  ((monRec s m).condition = true → monRec t m = monRec s m) ∧
  ((monRec s m).condition = false → (monRec s m).count + 1 < (monSetting s m).persistence →
    monRec t m = { monRec s m with count := (monRec s m).count + 1 }) ∧
  ((monRec s m).condition = false → (monSetting s m).persistence ≤ (monRec s m).count + 1 →
    (monRec t m).condition = true ∧ (monRec t m).count = (monSetting s m).persistence ∧
      (monRec t m).events = satInc (monRec s m).events ∧
      ((monSetting s m).mode = .latch → (monRec t m).latched = true ∧ (monRec t m).warning = (monRec s m).warning) ∧
      ((monSetting s m).mode ≠ .latch → (monRec t m).warning = true ∧ (monRec t m).latched = (monRec s m).latched))

/-- R152: an evaluation of a condition monitor taken between two states; in OFF nothing of it changes. -/
def conditionTaken (m : MonNo) (active : Bool) (s t : State) : Prop :=
  ((monSetting s m).mode = .off → monRec t m = monRec s m) ∧
  ((monSetting s m).mode ≠ .off → active = false →
    monRec t m = { monRec s m with count := 0, condition := false }) ∧
  ((monSetting s m).mode ≠ .off → active = true → activeTaken m s t)

/-- R153: one event of an event-type monitor is counted, unless the monitor is in OFF. -/
def eventCounted (m : MonNo) (s t : State) : Prop :=
  ((monSetting s m).mode = .off → monRec t m = monRec s m) ∧
  ((monSetting s m).mode ≠ .off → (monRec t m).events = satInc (monRec s m).events)

/-- R173: no pending mark has been cleared, none but those of some sources has been set, and the alert settings stand. -/
def raisedOnly (sources : List Source) (s t : State) : Prop :=
  t.alerts.priority = s.alerts.priority ∧
  ∀ p, (portOf t.alerts.ports p).enables = (portOf s.alerts.ports p).enables ∧
    (portOf t.alerts.ports p).mask = (portOf s.alerts.ports p).mask ∧
    ∀ src, (src ∉ sources → (portOf t.alerts.ports p).marks.get src = (portOf s.alerts.ports p).marks.get src) ∧
      ((portOf s.alerts.ports p).marks.get src = true → (portOf t.alerts.ports p).marks.get src = true)

/-- The monitors outside a list are unchanged. -/
def othersKept (changed : List MonNo) (s t : State) : Prop := ∀ m, m ∉ changed → monRec t m = monRec s m

/-- R41, R47, R48, R52: what a bad frame of an input gives beyond its own items: an evaluation of its loss monitor, its
source raised where its state has changed, and, in Select, a protection switch to the other input when that is Locked
and the active one has been lost. -/
def badFrameEffects (i : InputNo) (s t : State) : Prop :=
  feedOf t (otherInput i) = feedOf s (otherInput i) ∧
  othersKept [monInput i] s t ∧ raisedOnly [srcInput i, srcFault, srcWarning, srcSwitch] s t ∧
  conditionTaken (monInput i) ((feedOf t i).acq == .lost) s t ∧
  (∀ p, (portOf t.alerts.ports p).marks.get (srcInput i) =
    ((portOf s.alerts.ports p).marks.get (srcInput i) || (feedOf s i).acq != (feedOf t i).acq)) ∧
  (s.profile.pathMode = .merge → t.merge = s.merge) ∧
  (s.profile.pathMode = .select → s.merge.active = i → (feedOf s i).acq ≠ (feedOf t i).acq →
    (feedOf t i).acq ≠ .impaired → (feedOf s (otherInput i)).acq = .locked →
    t.merge = ⟨otherInput i, none, satInc s.merge.switches⟩) ∧
  (s.profile.pathMode = .select → s.merge.active = i → (feedOf s (otherInput i)).acq ≠ .locked → t.merge = s.merge) ∧
  (s.profile.pathMode = .select → s.merge.active ≠ i →
    t.merge.active = s.merge.active ∧ t.merge.switches = s.merge.switches)

/-- R48: the revert count that a good frame of the preferred input gives, while the other input is active; none when
there is none. -/
def provenRuns (before after : AcqState) (revert : Option Counter) : Option Counter :=
  if after ≠ .locked then none else if before ≠ .locked then some 0 else revert.map satInc

/-- R47, R48: Path Merge at a good frame of an input: in Select, an input that enters Locked while the active one is
Searching or Lost is switched to, and the preferred input is, once its revert count reaches the hold-off. -/
def goodFrameMerge (i : InputNo) (s t : State) : Prop :=
  let entered : Prop := (feedOf s i).acq ≠ .locked ∧ (feedOf t i).acq = .locked
  let down : Prop := (feedOf s (otherInput i)).acq = .lost ∨ (feedOf s (otherInput i)).acq = .searching
  let runs := provenRuns (feedOf s i).acq (feedOf t i).acq s.merge.revert
  let proves : Prop := s.profile.revertive = true ∧ s.profile.preferred = i
  (s.profile.pathMode = .merge ∨ s.merge.active = i → t.merge = s.merge) ∧
  (s.profile.pathMode = .select → s.merge.active ≠ i →
    (entered → down → t.merge = ⟨i, none, satInc s.merge.switches⟩) ∧
    (¬ (entered ∧ down) →
      (¬ proves → t.merge = s.merge) ∧
      (proves → runs = none → t.merge = { s.merge with revert := none }) ∧
      ∀ c, proves → runs = some c →
        (s.profile.holdOff ≤ c.toNat → t.merge = ⟨i, none, satInc s.merge.switches⟩) ∧
        (c.toNat < s.profile.holdOff → t.merge = { s.merge with revert := some c })))

/-! ### Terms of the store and the link -/

/-- R59: the lowest-numbered slot in Held or Emitting that carries a sequence, with its frame check value. -/
def carriedBy (s : State) (q : Seq) (k : Fin 64) (check : BitVec 32) : Prop :=
  (slotAt s k).carries q = true ∧ (slotAt s k).check? = some check ∧ ∀ j, j < k → (slotAt s j).carries q = false

/-- R65: a slot in Held is earlier than a boundary time; of a passed sequence behind a gap entry too (log 44). -/
def isPast (b : NetTime) : Slot → Bool
  | .held info _ _ => decide (timeDiff info.release b < 0)
  | .free => false
  | .filling _ _ => false
  | .emitting _ _ _ => false

/-- R65: how many Held slots, the one that the output takes apart, are earlier than a boundary time. -/
def pastCount (s : State) (b : NetTime) (taken : Option (Fin 64)) : Nat :=
  ((numbers 64).filter fun j => taken != some j && isPast b (slotAt s j)).length

/-- R119: a Query is eligible for an entry of a record. -/
def queryable (s : State) (r : Fin 16) (e : Fin 8) : Prop :=
  ∃ b x, recOf s r = some b ∧ b.state = .pending ∧ b.entries[e.val]? = some x ∧ x.state = .querying ∧
    ∀ k q, slotOf s k = some q → q.aborted = false →
      ¬ (q.kind = .query ∧ q.record = r ∧ q.entry = e ∧ q.segment = x.segment)

/-- R122: a record in a state is eligible for a Fetch of an entry, at an offset, with a count. -/
def fetchable (s : State) (r : Fin 16) (st : BreakState) (e : Fin 8) (offset count : Nat) : Prop :=
  ∃ b x, recOf s r = some b ∧ b.state = st ∧ (∀ y, y ∈ b.entries → y.state ≠ .withdrawn ∧ y.state ≠ .failed) ∧
    (∀ k q, slotOf s k = some q → q.aborted = false → q.kind ≠ .query → q.record ≠ r) ∧
    b.entries[e.val]? = some x ∧ x.nextOffset < x.count.getD 0 ∧
    (∀ d, d < e → ∀ y, b.entries[d.val]? = some y → y.count.getD 0 ≤ y.nextOffset) ∧ offset = x.nextOffset ∧
    1 ≤ count ∧ count = min (min s.profile.fetchSize (x.count.getD 0 - x.nextOffset))
      (min (s.profile.highMark - queuePlaces (queueOf s r)) (freePlaces s.memory))

/-- R119: the value by which Fetches of one class are ordered. -/
def fetchOrder (s : State) (r : Fin 16) : Nat :=
  ((recOf s r).map fun b => (b.sIn - (timelineSeq s).getD 0 + 32768).toNat).getD 0

/-- R119: among the records of one state, this one's Fetch goes first. -/
def fetchedFirst (s : State) (r : Fin 16) (st : BreakState) : Prop :=
  ∀ r' e o n, fetchable s r' st e o n → r' ≠ r →
    fetchOrder s r < fetchOrder s r' ∨ (fetchOrder s r = fetchOrder s r' ∧ r < r')

/-- R119: no record of a state is eligible for a Fetch. -/
def noFetch (s : State) (st : BreakState) : Prop := ∀ r e o n, ¬ fetchable s r st e o n

/-! ### Terms of a boundary and of splicing -/

/-- R109, R121: the Break Table, with the link and advert memory, at a boundary that may carry a sequence. -/
def breaksAfter (carried : Option Seq) (stopped : Bool) (s : State) : State :=
  match carried with
  | some q => countTimers (boundaryRule q stopped s)
  | none => s

/-- R139, R140: a label makes a replaced slot of a record through a window: the lowest-numbered Splice window that it
hits and that a record in OnAir names. -/
def replaces (s : State) (label : BitVec 12) (w : Fin 8) (r : Fin 16) : Prop :=
  (windowAt s w).kind = .splice ∧ labelHits (windowAt s w) label = true ∧ onAirNaming s w = some r ∧
    ∀ v, v < w → (windowAt s v).kind = .splice → labelHits (windowAt s v) label = true → onAirNaming s v = none

/-- R142: the label that an advert packet leaves with. -/
def leavesAs (w : Window) (label out : BitVec 12) : Prop :=
  (w.translate = false ∨ label = 0xFFF → out = label) ∧
  (w.translate = true → label ≠ 0xFFF → ∀ i, i < 12 →
    out.getLsbD i = if w.mask.getLsbD i then w.newLabel.getLsbD i else label.getLsbD i)

/-! ### Terms of the boundary rule (R109 to R112) -/

/-- Step 1 of R109: a record OnAir that a mark or a stopped output ends. -/
def endsByMark (stopped : Bool) (b : BreakRec) : Bool :=
  b.state == .onAir && (b.underrunMark || b.earlyMark || stopped)

/-- Step 2 of R109: a record OnAir whose range has run out. -/
def endsByRange (q : Seq) (stopped : Bool) (b : BreakRec) : Bool :=
  b.state == .onAir && !endsByMark stopped b && atOrAfter q (b.sIn + b.frames)

/-- A record that waits to go on air, at a sequence at or after its first one. -/
def startReached (q : Seq) (b : BreakRec) : Bool :=
  (b.state == .pending || b.state == .armed || b.state == .fetching) && atOrAfter q b.sIn

/-- R110: a record that waits goes on air at a sequence: in its range, the output not stopped, Fetching, by step 3 if
need be, with its start fill at the head of its queue. -/
def startsOnAir (s : State) (q : Seq) (stopped : Bool) (r : Fin 16) (b : BreakRec) : Bool :=
  inRange q b.sIn b.frames.toNat && !stopped &&
    (b.state == .fetching || (b.state == .armed && atOrAfter q (b.sIn - BitVec.ofNat 16 s.profile.prefetch))) &&
    decide (min s.profile.startFill (b.total.getD 0) ≤ headFilled (queueOf s r))

/-- R110: a record whose first sequence is reached and that does not go on air. -/
def startFails (s : State) (q : Seq) (stopped : Bool) (r : Fin 16) (b : BreakRec) : Bool :=
  startReached q b && !startsOnAir s q stopped r b

/-- A record that a boundary terminates. -/
def endsAt (s : State) (q : Seq) (stopped : Bool) (r : Fin 16) : Bool :=
  (recOf s r).any fun b => endsByMark stopped b || endsByRange q stopped b || startFails s q stopped r b

/-- The records that a test names, in order of record number. -/
def recordsThat (s : State) (f : Fin 16 → BreakRec → Bool) : List (Fin 16) :=
  (numbers 16).filter fun r => (recOf s r).any (f r)

/-- R112: a record as it terminates at a boundary of q, with the packets of its queue that its end discards. -/
def endedAt (q : Seq) (final : BreakState) (cause : TermCause) (discarded : Nat) (b : BreakRec) : BreakRec :=
  { b with
    state := final, cause := some cause, termSeq := some q, surplus := b.surplus + discarded
    entries := b.entries.map fun e => { e with timer := none } }

/-! ### Terms of an Apply that takes effect (R171) -/

/-- Two profiles differ in T_f or N_p. -/
def formatDiffers (old new : Profile) : Prop := new.frameInterval ≠ old.frameInterval ∨ new.packets ≠ old.packets

/-- R28: F and P are clamped to the new limits, and Holdover with U above the new limit becomes Expired. -/
def timebaseApplied (new : Profile) (a b : Timebase) : Prop :=
  b = { a with
    freq := max (-(new.freqLimit : Int)) (min new.freqLimit a.freq)
    phase := max (-(new.slewLimit : Int)) (min new.slewLimit a.phase), state := b.state } ∧
  (a.state = .holdover → (∃ h, a.holdover = some h ∧ new.uncertainty < h.uncertainty.toNat) → b.state = .expired) ∧
  (a.state ≠ .holdover ∨ (∀ h, a.holdover = some h → h.uncertainty.toNat ≤ new.uncertainty) → b.state = a.state)

/-- R42: with another T_f or N_p both inputs enter Searching with both runs at 0, what is in progress on either line is
abandoned, and each silence deadline is four new frame intervals ahead; the counters are kept. -/
def feedsApplied (old new : Profile) (s u : State) : Prop :=
  (formatDiffers old new → u.lines = { s.lines with feeds := ⟨[], []⟩ } ∧ ∀ i, feedOf u i = { feedOf s i with
    acq := .searching, goodRun := 0, badRun := 0, inProgress := none
    silenceDeadline := addTicks s.tb.localTime (4 * new.frameInterval) }) ∧
  (¬ formatDiffers old new → u.lines = s.lines ∧ u.feeds = s.feeds)

/-- R50, on the inputs as R42 leaves them (log 41): the active input on entry to Select, and the revert count as a change
of the path settings starts or ends it; R48 ends it too where the preferred input leaves Locked. -/
def mergeApplied (old new : Profile) (s u : State) : Prop :=
  let trusted (i : InputNo) : Prop := (feedOf u i).acq = .locked ∨ (feedOf u i).acq = .impaired
  let starts : Prop :=
    new.revertive = true ∧ new.preferred ≠ u.merge.active ∧ (feedOf u new.preferred).acq = .locked
  let begun : Prop := (starts → u.merge.revert = some 0) ∧ (¬ starts → u.merge.revert = none)
  let changed : Prop := new.preferred ≠ old.preferred ∨ new.revertive ≠ old.revertive
  let left : Prop := formatDiffers old new ∧ (feedOf s new.preferred).acq = .locked
  u.merge.switches = s.merge.switches ∧
  (old.pathMode = .merge → new.pathMode = .select → begun ∧
    (trusted new.preferred → u.merge.active = new.preferred) ∧
    (¬ trusted new.preferred → trusted (otherInput new.preferred) → u.merge.active = otherInput new.preferred) ∧
    (¬ trusted new.preferred → ¬ trusted (otherInput new.preferred) → u.merge.active = new.preferred)) ∧
  (old.pathMode = .select → new.pathMode = .merge → u.merge.active = s.merge.active ∧ u.merge.revert = none) ∧
  (old.pathMode = new.pathMode → u.merge.active = s.merge.active ∧
    (new.pathMode = .select → changed → begun) ∧
    (new.pathMode = .merge ∨ ¬ changed →
      (left → u.merge.revert = none) ∧ (¬ left → u.merge.revert = s.merge.revert)))

/-- A slot in Filling or Held with its release instant moved by Δ where a test names its sequence; any other slot as it is. -/
def shifted (delta : Int) (which : Seq → Bool) : Slot → Slot
  | .free => .free
  | .filling info shadow =>
    .filling (if which info.seq then { info with release := addTicks info.release delta } else info) shadow
  | .held info c ps => .held (if which info.seq then { info with release := addTicks info.release delta } else info) c ps
  | .emitting info c ps => .emitting info c ps

/-- A slot is in Filling. -/
def isFilling : Slot → Bool
  | .filling _ _ => true
  | .free => false
  | .held _ _ _ => false
  | .emitting _ _ _ => false

/-- R73: a slot in Held whose release instant is not the boundary time of its sequence, or falls on a gap boundary. -/
def offTimeline (tf : Nat) (tl : Timeline) : Slot → Bool
  | .held info _ _ => info.release != boundaryTime tf tl info.seq || onRunningGap tl info.release
  | .free => false
  | .filling _ _ => false
  | .emitting _ _ _ => false

/-- How many slots satisfy a test. -/
def slotCount (f : Fin 64 → Bool) : Nat := ((numbers 64).filter f).length

/-- R71: a slot in Held or Filling whose sequence is among the k from q on. -/
def droppedFrom (q : Seq) (k : Nat) : Slot → Bool
  | .held info _ _ => inRange info.seq q k
  | .filling info _ => inRange info.seq q k
  | .free => false
  | .emitting _ _ _ => false

/-- The margin of a slot in Held over local time (R67). -/
def heldMargin (now : NetTime) : Slot → Option Int
  | .held info _ _ => some (timeDiff info.release now)
  | .free => none
  | .filling _ _ => none
  | .emitting _ _ _ => none

/-- R67 to R73: the store at an Apply, with the sequence of the boundary where it takes effect, and how many frames it
frees as Late, as Early and as off the timeline. The running gaps of R70 and R71 still count the boundary itself, which
is fixed next as the first of them. Boundary times are R63 read literally (log 10), and of two Held frames with one earliest
release instant the one in the lower-numbered slot anchors (log 40). -/
def storeApplied (x : Option Seq) (s u : State) (late early off : Nat) : Prop :=
  let old := s.settings.active
  let new := s.settings.staged
  let tf := new.frameInterval
  let delta := offsetSum new - offsetSum old
  let quiet : Prop := late = 0 ∧ early = 0 ∧ off = 0
  let kept (drops : Counter) : Prop := u.store = { s.store with
    slots := u.store.slots, timeline := u.store.timeline, plannedDrops := drops }
  let onto (tl : Timeline) (v : Fin 64 → Slot) : Prop := u.store.timeline = some tl ∧
    (∀ j, slotAt u j = if offTimeline tf tl (v j) then .free else v j) ∧ off = slotCount fun j => offTimeline tf tl (v j)
  (formatDiffers old new →
    quiet ∧ kept s.store.plannedDrops ∧ u.store.timeline = none ∧ ∀ j, slotAt u j = .free) ∧
  (¬ formatDiffers old new →
    (s.store.timeline = none → quiet ∧ kept s.store.plannedDrops ∧ u.store.timeline = none ∧ ∀ j, slotAt u j =
      if isFilling (slotAt s j) then shifted delta (fun _ => true) (slotAt s j) else slotAt s j) ∧
    ∀ tl q, s.store.timeline = some tl → x = some q →
      (delta = 0 → quiet ∧ u.store = s.store) ∧
      (∀ k : Nat, delta ≠ 0 → delta = (k * tf : Nat) → late = 0 ∧ early = 0 ∧ kept s.store.plannedDrops ∧
        onto { tl with anchorSeq := q, anchorTime := addTicks tl.nextBoundary (k * tf), runningGaps := k }
          fun j => shifted delta (fun y => atOrAfter y q) (slotAt s j)) ∧
      (∀ k : Nat, delta ≠ 0 → delta = -((k * tf : Nat) : Int) →
        let passed (g : GapEntry) : Bool := inRange g.seq (q + 1) k
        let gaps := ((tl.gaps.filter passed).map (·.count)).sum
        let first := q + BitVec.ofNat 16 k
        late = 0 ∧ early = 0 ∧
        kept (satInc^[slotCount fun j => droppedFrom q k (slotAt s j)] s.store.plannedDrops) ∧
        onto { tl with
            gaps := tl.gaps.filter fun g => !passed g
            anchorSeq := first, anchorTime := addTicks tl.nextBoundary (gaps * tf), runningGaps := gaps }
          fun j => if droppedFrom q k (slotAt s j) then .free
            else shifted delta (fun y => atOrAfter y first) (slotAt s j)) ∧
      ((∀ k : Nat, delta ≠ (k * tf : Nat) ∧ delta ≠ -((k * tf : Nat) : Int)) →
        let v (j : Fin 64) : Slot := shifted delta (fun _ => true) (slotAt s j)
        let isLate (j : Fin 64) : Bool := (heldMargin s.tb.localTime (v j)).any fun m : Int => decide (m < (new.guardMargin : Int))
        let isEarly (j : Fin 64) : Bool :=
          !isLate j && (heldMargin s.tb.localTime (v j)).any fun m : Int => decide (((60 * tf : Nat) : Int) < m)
        let w (j : Fin 64) : Slot := if isLate j || isEarly j then .free else v j
        late = slotCount isLate ∧ early = slotCount isEarly ∧ kept s.store.plannedDrops ∧
        ((∀ j info c ps, w j ≠ .held info c ps) → off = 0 ∧ u.store.timeline = none ∧ ∀ j, slotAt u j = w j) ∧
        ∀ j info c ps, w j = .held info c ps →
          (∀ i info' c' ps', w i = .held info' c' ps' → 0 < timeDiff info'.release info.release ∨
            (timeDiff info'.release info.release = 0 ∧ j ≤ i)) →
          onto (anchorTo tf s.tb.localTime info.seq info.release) w))

/-- R171: what an Apply leaves when it takes effect, at the boundary of a sequence, or with none at once while the
timeline is Absent: the staged profile active, source 14 raised, the timebase by R28, the feed inputs by R42, Path Merge
by R50, the store by R68 to R73 with its events of M5, M6 and M8, and the monitors by R160, each whose settings have
changed with its count at 0 and its condition inactive, the Fault cause standing on what is left. Every other item is as
it was (R116, R134, R137). The order of the blocks is log 41. -/
def Applied (x : Option Seq) (s u : State) : Prop :=
  let old := s.settings.active
  let new := s.settings.staged
  ∃ late early off : Nat,
    u = { s with
      settings := ⟨new, new, .none⟩, tb := u.tb, feeds := u.feeds, lines := u.lines, merge := u.merge, store := u.store
      output := u.output, monitors := u.monitors, alerts := u.alerts } ∧
    timebaseApplied new s.tb u.tb ∧ feedsApplied old new s u ∧ mergeApplied old new s u ∧
    storeApplied x s u late early off ∧
    (∀ m, let events := if m = mon5 then late else if m = mon6 then early else if m = mon8 then off else 0
      let counted := monRec ((evalEvent m)^[events] { s with settings := ⟨new, new, .none⟩ }) m
      monRec u m = if old.monitors.get m = new.monitors.get m then counted
        else { counted with count := 0, condition := false }) ∧
    (late + early + off = 0 ∨ s.monitors.first ≠ none → u.monitors.first = s.monitors.first) ∧
    raisedOnly [srcApply, srcTimebase, srcInput .one, srcInput .two, srcFault, srcWarning, srcOutput, srcMuted] s u ∧
    (∀ port, (portOf u.alerts.ports port).marks.get srcApply = true ∧
      (portOf u.alerts.ports port).marks.get srcTimebase =
        ((portOf s.alerts.ports port).marks.get srcTimebase || u.tb.state != s.tb.state) ∧
      ∀ i, (portOf u.alerts.ports port).marks.get (srcInput i) =
        ((portOf s.alerts.ports port).marks.get (srcInput i) || (feedOf u i).acq != (feedOf s i).acq)) ∧
    (s.output.causes.fault = faultHolds s →
      u.output = { s.output with causes := { s.output.causes with fault := faultHolds u } } ∧
      raisedOnly [srcApply, srcTimebase, srcInput .one, srcInput .two, srcFault, srcWarning] s u)

/-! ### Events that are due (logs 1 and 2) -/

/-- The events of the device's own that stand in a state, each with its ground. The level that a boundary reads is a free
value (log 3), and MESSAGE_SEND is an event of its own (log 6), with the arbiter's eligibility as log 20 reads it. -/
def dueNow (s : State) (c : Instr) : Prop :=
  let passed (d : NetTime) : Prop := 0 ≤ timeDiff s.tb.localTime d
  let boundary : Prop := ∃ tl, s.store.timeline = some tl ∧ passed tl.nextBoundary
  (c = .adjustmentPeriodEnd ∧ ∃ k, s.tb.cycle = some k ∧ 10000000 ≤ k) ∨
  (c = .secondsChange ∧ 1 ≤ s.tb.secondsDue) ∨
  (c = .missingPulseDeadline ∧ (s.tb.state = .acquiring ∨ s.tb.state = .tracking ∨ s.tb.state = .slewing) ∧
    ∃ d, s.tb.missDeadline = some d ∧ passed d) ∨
  (∃ i, c = .silenceInterval i ∧ passed (feedOf s i).silenceDeadline) ∨
  (c = .boundary (Config.exciterReady s.freeCount) ∧ boundary) ∨
  (c = .packetPresentation ∧ ∃ v p d, s.output.interval = some v ∧ v.packets[v.next]? = some (p, d) ∧ passed d) ∨
  (c = .muteLineAssert ∧ s.output.state = .running ∧ s.output.muteLine = false ∧ ¬ boundary ∧
    ∃ d, s.output.muteAt = some d ∧ passed d) ∨
  (c = .messageSend ∧ s.link.line = none ∧
    ((∃ k q, slotOf s k = some q ∧ (q.abortWaiting = true ∨ (q.send = .waiting ∧ q.aborted = false))) ∨
      ((∃ k, slotOf s k = none) ∧ ∃ x, chooseRequest s = some x))) ∨
  (∃ k q d, c = .replyTimeout k ∧ slotOf s k = some q ∧ q.deadline = some d ∧ passed d) ∨
  (∃ r e b x, c = .requeryTimerExpiry r e ∧ recOf s r = some b ∧ b.entries[e.val]? = some x ∧ x.timer = some 0) ∨
  (c = .presenceMissing ∧ ∃ v, s.direction.presence = some v ∧ passed v.deadline)

/-! ### Layouts of responses (R162) -/

/-- The fields of a response in order, each with its width and its value. -/
abbrev Fields := List (Nat × Int)

/-- The bytes of fields. -/
def layoutBytes (fields : Fields) : List Byte := (fields.map fun f => beSigned f.1 f.2).flatten

/-- A field that holds a number. -/
def num (width n : Nat) : Nat × Int := (width, n)

/-- A mark or a condition: 0 set or active, 1 clear or inactive (log 16). -/
def mark (b : Bool) : Nat × Int := (1, if b then 0 else 1)

/-- A field that is 1 or 0. -/
def flag (b : Bool) : Nat × Int := (1, if b then 1 else 0)

/-- Fields that may be absent: a presence byte, then the fields or zero bytes. -/
def mayFields (widths : List Nat) (values : Option (List Int)) : Fields :=
  flag values.isSome :: widths.zip (values.getD (widths.map fun _ => 0))

/-- A number that may be absent. -/
def mayNum (width : Nat) (value : Option Nat) : Fields := mayFields [width] (value.map fun n => [(n : Int)])

/-- The seconds and the ticks of a network time. -/
def timeValues (t : NetTime) : List Int := [(t.sec.toNat : Int), (t.tick.val : Int)]

/-- A list of numbers: how many, then each of them. -/
def listFields (width : Nat) (values : List Nat) : Fields := num 1 values.length :: values.map (num width)

/-- Counters, of two bytes each. -/
def words (values : List Counter) : Fields := values.map fun c => num 2 c.toNat

/-- R32: the fields of Read Timebase. -/
def timebaseFields (tb : Timebase) : Fields :=
  [num 1 (tbCode tb.state), num 4 tb.localTime.sec.toNat, num 4 tb.localTime.tick.val, (4, tb.freq), (4, tb.phase),
      (1, tb.carry), (4, tb.adjust), flag tb.acquired.isSome]
    ++ mayNum 4 (tb.acquired.map (·.toNat)) ++ mayNum 4 (tb.expected.map (·.toNat))
    ++ [num 1 tb.outlierRun, num 2 tb.missRun.toNat]
    ++ mayNum 4 (tb.holdover.map (·.seconds.toNat)) ++ mayNum 4 (tb.holdover.map (·.uncertainty.toNat))
    ++ [mark tb.tracked] ++ mayFields [4, 4, 8] (tb.lastPulse.map fun l => timeValues l.time ++ [l.error])
    ++ words [tb.accepted, tb.outliers, tb.missing, tb.steps]

/-- R54: the fields of a feed input. -/
def feedFields (f : FeedInput) : Fields :=
  num 1 (acqCode f.acq) :: words [f.goodRun, f.badRun, f.goodFrames, f.badFrames, f.headerFailures, f.checkFailures,
    f.foreignNetwork, f.cuesSkipped]

/-- R75: the fields of a slot. -/
def slotFields (s : State) (j : Fin 64) : Fields :=
  num 1 j.val :: num 1 (slotCode (slotAt s j)) ::
    match (slotAt s j).info? with
    | none => [num 4 0]
    | some info => [num 2 info.seq.toNat, num 1 (inputCode info.source), mark (slotAt s j).shadow]

/-- R75: the fields of the timeline, the store's counters and the gap list's first entries (log 18). -/
def timelineFields (store : FrameStore) : Fields :=
  let tl := store.timeline
  let gaps := (tl.map (·.gaps)).getD []
  [flag tl.isSome] ++ mayFields [2, 4, 4] (tl.map fun t => (t.anchorSeq.toNat : Int) :: timeValues t.anchorTime)
    ++ mayFields [4, 4] (tl.map fun t => timeValues t.nextBoundary) ++ mayNum 2 (tl.map (·.lastSeq.toNat))
    ++ [num 2 ((tl.map (·.runningGaps)).getD 0)]
    ++ words [store.framesHeld, store.duplicates, store.freedUnsent, store.plannedDrops]
    ++ [num 1 gaps.length] ++ ((gaps.take 12).map fun g => [num 2 g.seq.toNat, num 2 g.count]).flatten

/-- R92: the fields of the Emission Output. -/
def outputFields (o : Output) : Fields :=
  [num 1 (outCode o.state), num 1 (causeBits o.causes)] ++ words [o.delivered, o.muted, o.missing, o.gap, o.notReady]
    ++ mayFields [4, 4, 1, 2, 1, 2] (o.interval.map fun v => timeValues v.boundary ++
      [if v.seq.isSome then 1 else 0, (((v.seq.map (·.toNat)).getD 0 : Nat) : Int), (kindCode v.kind : Int), (v.next : Int)])

/-- R135: the fields of a request slot (log 18). -/
def requestFields : Option Request → Fields
  | none => [num 29 0]
  | some q =>
    let fetch : Option (Nat × Nat) := match q.kind with
      | .query => none
      | .fetch offset count => some (offset, count)
    [num 1 1, flag q.kind.isFetch, num 1 q.record.val, num 2 q.breakId.toNat, num 1 q.entry.val, num 4 q.segment.toNat]
      ++ mayNum 4 (fetch.map (·.1)) ++ mayNum 2 (fetch.map (·.2)) ++ [num 1 (sendCode q.send)]
      ++ mayFields [4, 4] (q.deadline.map timeValues) ++ [mark q.aborted]

/-- R163: the fields of the pending Apply (log 18). -/
def applyFields : PendingApply → Fields
  | .none => num 1 0 :: mayNum 2 none
  | .next => num 1 1 :: mayNum 2 none
  | .atSeq x => num 1 2 :: mayNum 2 (some x.toNat)

/-- R163: the fields of a part of Read Status; the settings of part 1 in one byte each (log 17). -/
def statusFields (s : State) : (part : Nat) → Fields
  | 0 =>
    [num 1 (outCode s.output.state), num 1 (causeBits s.output.causes), num 1 (tbCode s.tb.state),
        flag s.store.timeline.isSome]
      ++ mayNum 2 ((timelineSeq s).map (·.toNat))
      ++ [num 1 (portCode s.direction.director), num 1 (portCode s.direction.claim)] ++ applyFields s.settings.apply
      ++ mayFields [4, 4] (s.direction.presence.map fun v => timeValues v.deadline)
  | 1 =>
    feedFields s.feeds.fst ++ feedFields s.feeds.snd
      ++ [flag (s.profile.pathMode == .select), num 1 (inputCode s.profile.preferred), flag s.profile.revertive,
        num 1 (inputCode s.merge.active)]
      ++ mayNum 2 (s.merge.revert.map (·.toNat)) ++ words [s.merge.switches]
  | 6 => timelineFields s.store
  | 7 => outputFields s.output
  | 8 =>
    let l := s.link
    requestFields (l.slots.get 0) ++ requestFields (l.slots.get 1) ++ listFields 1 (l.created.map (·.val))
      ++ words [l.retries] ++ [mark l.rollover]
      ++ words [l.unsolicited, l.queries, l.fetches, l.aborts, l.shorts, l.timeouts, l.withdraws]
      ++ [num 2 (freePlaces s.memory)]
  | 9 => ((numbers 16).map fun r =>
      [num 2 (queueUnread (queueOf s r)), num 2 (queueReserved (queueOf s r)), num 2 (queueOf s r).length]).flatten
  | 10 => words [s.splice.dropped, s.splice.restamped, s.splice.underruns] ++ [num 2 s.splice.continuity.length]
  | part => (((numbers 64).filter fun j => decide (16 * (part - 2) ≤ j.val ∧ j.val < 16 * (part - 2) + 16)).map
      (slotFields s)).flatten

/-- R115: the fields of an entry, or of its absence. -/
def entryFields (x : Option Entry) : Fields :=
  match x with
  | none => [num 16 0]
  | some x => [num 1 1, num 4 x.segment.toNat, num 1 (entryCode x.state)] ++ mayNum 4 x.count
      ++ [num 4 x.nextOffset, num 1 x.attempts]

/-- R115: the fields of a part of Read Break. -/
def breakFields (r : Fin 16) (b : BreakRec) : (part : Nat) → Fields
  | 0 =>
    [num 1 r.val, num 2 b.id.toNat, num 1 (originCode b.origin), num 1 (breakCode (some b.state)), num 2 b.sIn.toNat,
        num 2 b.frames.toNat, num 1 b.windows.toNat, num 1 b.entries.length]
      ++ mayNum 4 b.total
      ++ [num 2 b.framesOnAir, num 4 b.replaced, num 4 b.emitted, num 4 b.underruns, num 4 b.tails, num 2 b.surplus,
        mark b.earlyMark, mark b.underrunMark]
      ++ mayNum 1 (b.cause.map termCode) ++ mayNum 2 (b.termSeq.map (·.toNat))
  | part => ((List.range 4).map fun k => entryFields (b.entries[4 * (part - 1) + k]?)).flatten

/-- R115: the fields of List Breaks. -/
def tableFields (t : BreakTable) : Fields :=
  ((numbers 16).map fun r => [num 1 (breakCode ((t.records.get r).map (·.state))),
      num 2 (((t.records.get r).map (·.id.toNat)).getD 0)]).flatten
    ++ words [t.cues.notForZone, t.cues.repeats, t.cues.mismatches, t.cues.amends, t.cues.tooLate, t.cues.conflicts,
      t.cues.tableFull, t.cues.noSuchBreak, t.cues.ignored]
    ++ listFields 1 (t.terminalOrder.map (·.val))

/-- R161: the fields of Read Monitor: 0 all the monitors, 1 to 16 one of them, 17 the first-fault record; a mode
and a persistence in one byte each (log 17). -/
def monitorFields (s : State) : (arg : Nat) → Fields
  | 0 => ((numbers 16).map fun m => [(1, modeValue (monSetting s m).mode), mark (monRec s m).condition,
      mark (monRec s m).latched, mark (monRec s m).warning, num 2 (monRec s m).events.toNat]).flatten
  | 17 => mayFields [1, 1, 2, 4, 4] (s.monitors.first.map fun f =>
      [((f.monitor.val + 1 : Nat) : Int), if f.seq.isSome then 1 else 0, (((f.seq.map (·.toNat)).getD 0 : Nat) : Int)]
        ++ timeValues f.time)
  | n + 1 =>
    let m : MonNo := ⟨n % 16, Nat.mod_lt _ (by decide)⟩
    [(1, modeValue (monSetting s m).mode), num 1 (monSetting s m).persistence, num 1 (monRec s m).count,
      mark (monRec s m).condition, mark (monRec s m).latched, mark (monRec s m).warning,
      num 2 (monRec s m).events.toNat]

/-! ### Invariants -/

/-- R80, R156: the output is Running only while its mute-cause set is empty, and the Fault cause stands exactly while
M4 or M10 holds it. -/
def OutputInv (s : State) : Prop :=
  (s.output.state = .running → noCause s.output.causes = true) ∧ s.output.causes.fault = faultHolds s

/-- R164: the pending claim is held by the port that does not direct, and is none while no port directs; the presence
state stands exactly while a port directs. -/
def DirectionInv (s : State) : Prop :=
  (s.direction.claim.isSome = true → s.direction.director.isSome = true ∧ s.direction.claim ≠ s.direction.director) ∧
    s.direction.presence.isSome = s.direction.director.isSome

/-- R57: no two slots in Held or Emitting carry the same sequence. -/
def StoreInv (s : State) : Prop :=
  ∀ (i j : Fin 64) (q : Seq), (slotAt s i).carries q = true → (slotAt s j).carries q = true → i = j

/-- A record law of two records: their break ids differ (R97), and while both are live they share no window or their
frame ranges do not meet (R99). -/
def apart (b c : BreakRec) : Prop :=
  b.id ≠ c.id ∧
    (b.state.live = true → c.state.live = true →
      b.windows &&& c.windows = 0 ∨ rangesMeet b.sIn b.frames.toNat c.sIn c.frames.toNat = false)

/-- R97, R99, R111, R113: any two records are apart; each record's replaced slots are its advert packets emitted, its
underrun fills and its tail fills together; and a record that waits to go on air carries neither mark. -/
def BreaksInv (s : State) : Prop :=
  (∀ (r q : Fin 16) (b c : BreakRec), r ≠ q → recOf s r = some b → recOf s q = some c → apart b c) ∧
    ∀ (r : Fin 16) (b : BreakRec), recOf s r = some b →
      b.replaced = b.emitted + b.underruns + b.tails ∧
        (b.state = .pending ∨ b.state = .armed ∨ b.state = .fetching → b.earlyMark = false ∧ b.underrunMark = false)

/-- R131: a queue's extents: each is filled with a packet still unread, but for a reservation at the tail. -/
def queueShape : List Extent → Bool
  | [] => true
  | [.reserved n] => decide (1 ≤ n)
  | .reserved _ :: _ :: _ => false
  | .filled packets pos :: rest => decide (pos < packets.length) && queueShape rest

/-- A request that is not aborted is a Fetch of a record for n packets. -/
def fetchesFor (q : Request) (r : Fin 16) (n : Nat) : Prop := q.aborted = false ∧ q.record = r ∧ ∃ o, q.kind = .fetch o n

/-- R95, R112, R122, R128, R131, R133: the places held never exceed 8,192; a queue that is not empty belongs to a record in
Fetching or OnAir and has at most one reservation, at its tail, that of the one Fetch that awaits for the record; an
aborted slot keeps its Fetch's reservation in its own name, and any other slot keeps none so; a request that is not
aborted is one of a live record with its break id; and the terminal order lists each terminal record once, and no other. -/
def AdvertInv (s : State) : Prop :=
  heldPlaces s.memory ≤ 8192 ∧
  (∀ r, queueShape (queueOf s r) = true ∧ (queueOf s r ≠ [] →
    ∃ b, recOf s r = some b ∧ (b.state = .fetching ∨ b.state = .onAir)) ∧
    ∀ n, (queueOf s r).getLast? = some (.reserved n) → ∃ k q, slotOf s k = some q ∧ fetchesFor q r n) ∧
  (∀ k, (∀ q, slotOf s k = some q → q.aborted = false) → s.memory.detached.get k = 0) ∧
  (∀ k q, slotOf s k = some q →
    (q.aborted = true → s.memory.detached.get k = q.kind.count) ∧
    (q.aborted = false → ∃ b, recOf s q.record = some b ∧ b.state.live = true ∧ b.id = q.breakId) ∧
    ∀ r n, fetchesFor q r n → (queueOf s r).getLast? = some (.reserved n) ∧
      ∀ j p m, j ≠ k → slotOf s j = some p → ¬ fetchesFor p r m) ∧
  s.breaks.terminalOrder.Nodup ∧
  ∀ r, r ∈ s.breaks.terminalOrder ↔ ∃ b, recOf s r = some b ∧ b.state.live = false

/-- R13, R22: the frequency correction and the phase term lie within the active limits, and the carry within −99 to
+99. -/
def LoopInv (s : State) : Prop :=
  s.tb.freq.natAbs ≤ s.profile.freqLimit ∧ s.tb.phase.natAbs ≤ s.profile.slewLimit ∧ s.tb.carry.natAbs ≤ 99

/-- R169: every numeric setting of a profile lies in its range, and M15 is not in FRAME (10.4). -/
def legalProfile (p : Profile) : Prop :=
  (∀ (id : Nat) (low high : Int), settingClass id = some (.numeric low high) →
      low ≤ settingValue p id ∧ settingValue p id ≤ high) ∧
    (p.monitors.get mon15).mode ≠ .frame

/-- R169: both profiles are legal. -/
def ProfileInv (s : State) : Prop := legalProfile s.settings.active ∧ legalProfile s.settings.staged

/-- The packets of a slot in Held or Emitting. -/
def Slot.packets? : Slot → Option (List ServicePacket)
  | .held _ _ packets => some packets
  | .emitting _ _ packets => some packets
  | _ => none

/-- R6, R68: every frame in progress has a header whose packet count is N_p, and every slot in Held or Emitting holds
N_p packets. -/
def FormatInv (s : State) : Prop :=
  (∀ (i : InputNo) (f : InProgress), (feedOf s i).inProgress = some f → field f.header 15 2 = s.profile.packets) ∧
    ∀ (i : Fin 64) (ps : List ServicePacket), (slotAt s i).packets? = some ps → ps.length = s.profile.packets

end Sys2Proof.Machine
end

