-- ==== Sys2Proof/Certificates/Slice0/Obligations.lean ====
section
/-! DEFINITION. The statements for the provers. -/

open Sys2Proof Sys2Proof.Machine

/-! ### Network time, sequences, formats (01) -/

/-- R3: the relations of the table by d, and frame ranges. -/
def Obligations.SequenceOrderAndRanges : Prop :=
  (∀ a b : Seq, ∀ d : Nat, d = (a.toNat + 65536 - b.toNat) % 65536 →
    (d = 0 ↔ a = b) ∧ (follows a b = true ↔ 1 ≤ d ∧ d ≤ 32767) ∧ (atOrAfter a b = true ↔ d ≤ 32767) ∧
    (follows b a = true ↔ 32769 ≤ d) ∧ (atOrAfter b a = true ↔ d = 0 ∨ 32769 ≤ d)) ∧
  (∀ (q first : Seq) (n : Nat), inRange q first n = true ↔ (q.toNat + 65536 - first.toNat) % 65536 < n) ∧
  (∀ (q first : Seq) (n : Nat), n ≤ 5000 →
    (inRange q first n = true ↔ ∃ k, k < n ∧ q = first + BitVec.ofNat 16 k) ∧
    ∀ k j, k < n → j < n → first + BitVec.ofNat 16 k = first + BitVec.ofNat 16 j → k = j) ∧
  (∀ (f1 f2 : Seq) (n1 n2 : Nat), 1 ≤ n1 → n1 ≤ 5000 → 1 ≤ n2 → n2 ≤ 5000 →
    (rangesMeet f1 n1 f2 n2 = true ↔ ∃ q, inRange q f1 n1 = true ∧ inRange q f2 n2 = true))

/-- Adding an offset works on the total count of ticks, modulo 2^32 seconds; the signed difference undoes it. -/
def Obligations.TimeSumsAndDifferences : Prop :=
  (∀ (t : NetTime) (k : Int),
    ((totalTicks (addTicks t k) : Nat) : Int) = ((totalTicks t : Int) + k) % 42949672960000000) ∧
  (∀ a b : NetTime, -21474836480000000 ≤ timeDiff a b ∧ timeDiff a b < 21474836480000000 ∧
    addTicks b (timeDiff a b) = a) ∧
  (∀ (t : NetTime) (k : Int), -21474836480000000 ≤ k → k < 21474836480000000 → timeDiff (addTicks t k) t = k)

/-- A service packet's fields and its 188 bytes give each other back, and a command frame with its check and fill bytes is
taken as the command of its code, with its arguments. On a feed line, the time-of-day line and the incoming advert line,
the bytes kept and those that arrive are the command that their last byte completes, with the fields sent; bytes that
complete nothing are kept, and do nothing else (a command's bytes, and the part of a message that CORRUPT_MESSAGE
carries, are log 5). -/
def Obligations.FormatsGiveBackFields : Prop :=
  (∀ p : ServicePacket, payloadFits p = true → (packetBytes p).length = 188 ∧ packetOfBytes (packetBytes p) = p) ∧
  (∀ (p : Port) (code : Byte) (args : List Byte) (fill : Nat), args.length ≤ 48 →
    portFrame p (frameBytes code args fill) = commandOf p code args) ∧
  (∀ (s : State) (i : InputNo) (bytes h : List Byte), endsHeader s i bytes h →
    feedCommand s i bytes = some
      (if headerFault s.profile h = none then .headerAccepted i bytes else .frameCompletion i bytes)) ∧
  (∀ (s : State) (i : InputNo) (bytes before part : List Byte), (feedOf s i).inProgress = none →
    inputOf s.lines.feeds i ++ bytes = before ++ part → part.length < 20 →
    part = [] ∨ part = [0xC3] ∨ part.take 2 = [0xC3, 0x5E] →
    (∀ k, k < before.length →
      ((before ++ part).drop k).take 2 ≠ [0xC3, 0x5E] ∧ (before ++ part).drop k ≠ [0xC3]) →
    feedCommand s i bytes = none ∧
      exec (.headerAccepted i bytes) s = .next { s with lines := feedKept i part s.lines }) ∧
  (∀ (s : State) (i : InputNo) (bytes : List Byte) (fr : InProgress) (rest : List Byte) (body : FrameBody),
    endsFrame s i bytes fr rest body → feedCommand s i bytes = some (.frameCompletion i bytes)) ∧
  (∀ (s : State) (i : InputNo) (bytes : List Byte) (fr : InProgress) (rest : List Byte) (body : FrameBody) (n : Nat),
    (feedOf s i).inProgress = some fr → frameBody fr.header rest = some body → n < rest.length →
    inputOf s.lines.feeds i ++ bytes = rest.take n →
    feedCommand s i bytes = none ∧
      exec (.frameCompletion i bytes) s = .next { s with lines := feedKept i (rest.take n) s.lines }) ∧
  (∀ (s : State) (bytes before m : List Byte), s.lines.tod ++ bytes = before ++ m → (∀ b, b ∈ before → b ≠ 0xA5) →
    (isTodMessage m = true → todCommand s bytes = some (.timeOfDayMessage bytes)) ∧
    (m.length < 8 → m = [] ∨ m.head? = some 0xA5 → todCommand s bytes = none ∧
      exec (.timeOfDayMessage bytes) s = .next { s with lines := { s.lines with tod := m } })) ∧
  (∀ (s : State) (bytes : List Byte) (m : RawMessage), endsMessage s bytes m →
    advertCommand s bytes = some (linkMessage m bytes)) ∧
  (∀ (s : State) (bytes : List Byte) (m : RawMessage) (n : Nat), m.body.length < 16777216 → n < (rawBytes m).length →
    s.lines.advert ++ bytes = (rawBytes m).take n →
    advertCommand s bytes = none ∧
      exec (.corruptMessage bytes) s = .next { s with lines := { s.lines with advert := (rawBytes m).take n } }) ∧
  ∀ (s : State) (bytes : List Byte) (tag : Byte) (segment : BitVec 32),
    (∀ count, readyFits count = true → s.lines.advert ++ bytes = readyMessage tag segment count →
      advertCommand s bytes = some (.ready tag segment count)) ∧
    (s.lines.advert ++ bytes = unknownMessage tag segment → advertCommand s bytes = some (.unknown tag segment)) ∧
    (s.lines.advert ++ bytes = withdrawMessage segment → advertCommand s bytes = some (.withdraw segment)) ∧
    ∀ id offset packets, burstFits packets = true → packets.all payloadFits = true →
      s.lines.advert ++ bytes = burstMessage tag id segment offset packets →
      advertCommand s bytes = some (.burst tag id segment offset packets)

/-! ### Steps and the queue -/

/-- A step takes the command at the front of the queue, with the queue's rest. -/
def Obligations.StepTakesFrontCommand : Prop :=
  ∀ (c : Instr) (rest : List Instr) (s : State), s.pending = c :: rest →
    step s = exec c { s with pending := rest }

/-- The MODEL's choice (logs 1, 2): on an empty queue a step takes one of the events that are due, or, when none is
due, one oscillator cycle, which is one tick away from an adjustment position; the count of changes of the seconds is log
30. The events that are due are those whose ground stands, each by its own rule. Of the model's making are the level that a
due boundary reads, a free value (log 3), and MESSAGE_SEND as an event of its own, due before the next cycle (log 6), for
what the arbiter may choose (log 20). -/
def Obligations.IdleStepTakesDueEvent : Prop :=
  (∀ (s : State) (c : Instr), c ∈ dueEvents s ↔ dueNow s c) ∧
  ∀ s : State, s.pending = [] →
    (dueEvents s ≠ [] → ∃ c, c ∈ dueEvents s ∧ step s = exec c { s with freeCount := s.freeCount + 1 }) ∧
    (dueEvents s = [] → atPosition s.tb = true → step s = exec .adjustmentPosition s) ∧
    (dueEvents s = [] → atPosition s.tb = false →
      ∃ t, step s = .next t ∧ t = { s with tb := t.tb } ∧ t.tb.localTime = addTicks s.tb.localTime 1 ∧
        t.tb.cycle = s.tb.cycle.map (· + 1) ∧
        t.tb = { s.tb with localTime := t.tb.localTime, cycle := t.tb.cycle, secondsDue := t.tb.secondsDue } ∧
        t.tb.secondsDue = s.tb.secondsDue + (if t.tb.localTime.sec = s.tb.localTime.sec then 0 else 1))

/-! ### Site Timebase (02) -/

/-- At the end of an adjustment period whose adjustments have all been applied: h and U are advanced while h counts,
Holdover with U above the limit becomes Expired, and where periods follow one another the carry step is made with
F + P; in Tracking and Slewing no period follows. -/
def Obligations.PeriodEndCountsAndChains : Prop :=
  ∀ (s : State) (k : Nat), s.tb.cycle = some k → 10000000 ≤ k → s.tb.applied = s.tb.adjust.natAbs →
    ∃ t, exec .adjustmentPeriodEnd s = .next t ∧ t = { s with tb := t.tb, alerts := t.alerts } ∧
      t.tb.freq = s.tb.freq ∧ t.tb.phase = s.tb.phase ∧ t.tb.localTime = s.tb.localTime ∧
      t.tb.expected = s.tb.expected ∧ t.tb.missDeadline = s.tb.missDeadline ∧ t.tb.acquired = s.tb.acquired ∧
      t.tb.holdover = s.tb.holdover.map (fun h =>
        ⟨sat32 (h.seconds.toNat + 1), sat32 ((sat32 (h.seconds.toNat + 1)).toNat * s.profile.allowance / 100)⟩) ∧
      (s.tb.state = .holdover → (∃ h, t.tb.holdover = some h ∧ s.profile.uncertainty < h.uncertainty.toNat) →
        t.tb.state = .expired) ∧
      (s.tb.state ≠ .holdover ∨ (∀ h, t.tb.holdover = some h → h.uncertainty.toNat ≤ s.profile.uncertainty) →
        t.tb.state = s.tb.state) ∧
      t.alerts = (if t.tb.state = s.tb.state then s.alerts else (raise srcTimebase s).alerts) ∧
      (s.tb.state ≠ .tracking → s.tb.state ≠ .slewing →
        t.tb.cycle = some 0 ∧ t.tb.applied = 0 ∧ t.tb.carry.natAbs ≤ 99 ∧
        t.tb.carry + 100 * t.tb.adjust = s.tb.carry + (s.tb.freq + s.tb.phase) ∧
        (0 ≤ s.tb.carry + (s.tb.freq + s.tb.phase) → 0 ≤ t.tb.carry) ∧
        (s.tb.carry + (s.tb.freq + s.tb.phase) ≤ 0 → t.tb.carry ≤ 0)) ∧
      (s.tb.state = .tracking ∨ s.tb.state = .slewing → t.tb.cycle = none ∧ t.tb.carry = s.tb.carry)

/-- At the j-th adjustment position of a period with adjustment n, cycle floor(j × 10,000,000 / (|n| + 1)), local time
gains or loses one tick; nothing else changes but the place in the period and the MODEL's count of changes of the seconds
(log 30). -/
def Obligations.AdjustmentGainsOrLosesTick : Prop :=
  ∀ (s : State) (j : Nat), 1 ≤ j → j ≤ s.tb.adjust.natAbs → s.tb.applied + 1 = j →
    s.tb.cycle = some (j * 10000000 / (s.tb.adjust.natAbs + 1)) →
    ∃ t, exec .adjustmentPosition s = .next t ∧ t = { s with tb := t.tb } ∧
      t.tb.localTime = addTicks s.tb.localTime (if 0 < s.tb.adjust then 2 else 0) ∧ t.tb.applied = j ∧
      t.tb.cycle = some (j * 10000000 / (s.tb.adjust.natAbs + 1) + 1) ∧
      t.tb = { s.tb with localTime := t.tb.localTime, applied := t.tb.applied, cycle := t.tb.cycle,
                         secondsDue := t.tb.secondsDue } ∧
      t.tb.secondsDue = s.tb.secondsDue + (if t.tb.localTime.sec = s.tb.localTime.sec then 0 else 1)

/-- A change of the seconds evaluates M9, active in Slewing, and M10, active in Free and Expired, and in Acquiring while
the tracked mark is clear or U is above its limit. The Fault cause then stands exactly where M4 or M10 holds it, and where
it comes to stand a Running output is mute at once. In Free, M10 in LATCH at its persistence latches, posts the Fault
cause and mutes a Running output; in Tracking both conditions end, and a Fault cause that nothing else holds goes. That
a change waits in the MODEL's count until its evaluation, and that M9 is evaluated before M10, are log 30. -/
def Obligations.SecondsChangeEvaluatesTiming : Prop :=
  ∀ (s : State) (n : Nat), s.tb.secondsDue = n + 1 →
    ∃ t, exec .secondsChange s = .next t ∧
      t = { s with tb := { s.tb with secondsDue := n }, monitors := t.monitors, alerts := t.alerts, output := t.output } ∧
      othersKept [mon9, mon10] s t ∧ raisedOnly [srcFault, srcWarning, srcOutput, srcMuted] s t ∧
      conditionTaken mon9 (s.tb.state == .slewing) s t ∧
      (s.tb.state = .free ∨ s.tb.state = .expired ∨ (s.tb.state = .acquiring ∧ (s.tb.tracked = false ∨
          ∃ h, s.tb.holdover = some h ∧ s.profile.uncertainty < h.uncertainty.toNat)) →
        conditionTaken mon10 true s t) ∧
      (s.tb.state = .tracking ∨ s.tb.state = .slewing ∨ s.tb.state = .holdover ∨ (s.tb.state = .acquiring ∧
          s.tb.tracked = true ∧ ∀ h, s.tb.holdover = some h → h.uncertainty.toNat ≤ s.profile.uncertainty) →
        conditionTaken mon10 false s t) ∧
      (s.output.causes.fault = faultHolds s →
        let causes : CauseSet := { s.output.causes with fault := faultHolds t }
        (s.output.state = .running → s.output.causes.fault = false → faultHolds t = true →
          t.output = { s.output with causes := causes, state := .muted, muteLine := true, muteAt := none } ∧
          ∀ port src, src ∈ [srcOutput, srcMuted] → (portOf t.alerts.ports port).marks.get src = true) ∧
        (s.output.state ≠ .running ∨ s.output.causes.fault = true ∨ faultHolds t = false →
          t.output = { s.output with causes := causes })) ∧
      (s.tb.state = .free → (monSetting s mon10).mode = .latch → (monRec s mon10).condition = false →
        (monSetting s mon10).persistence ≤ (monRec s mon10).count + 1 → s.output.causes.fault = false →
        (monRec t mon10).condition = true ∧ (monRec t mon10).latched = true ∧
        (monRec t mon10).events = satInc (monRec s mon10).events ∧ t.output.causes.fault = true ∧
        (s.output.state = .running → t.output.state = .muted ∧ t.output.muteLine = true) ∧
        (s.output.state ≠ .running → t.output.state = s.output.state)) ∧
      (s.tb.state = .tracking → (monSetting s mon9).mode ≠ .off → (monSetting s mon10).mode ≠ .off →
        monRec t mon9 = { monRec s mon9 with count := 0, condition := false } ∧
        monRec t mon10 = { monRec s mon10 with count := 0, condition := false } ∧
        (muteHolds s mon4 = false → (monRec s mon10).latched = false →
          t.output = { s.output with causes := { s.output.causes with fault := false } } ∧ t.alerts = s.alerts))

/-- A time-of-day message that completes replaces the held state: accepted with its label when the check passes and the
valid flag is set, and invalid otherwise. After it the receiver hunts again, from the byte after the message, or, when
the check fails, from the byte after its marker. -/
def Obligations.TimeOfDayMessageIsHeld : Prop :=
  ∀ (s : State) (bytes before m : List Byte) (flags reserved check : Byte) (label : BitVec 32),
    m = todBytes flags label reserved check → s.lines.tod ++ bytes = before ++ m → (∀ b, b ∈ before → b ≠ 0xA5) →
    ∃ t, exec (.timeOfDayMessage bytes) s = .next t ∧
      t = { s with tod := t.tod, lines := { s.lines with tod := t.lines.tod } } ∧
      (check = (m.take 7).sum → flags.getLsbD 0 = true → t.tod = .accepted label) ∧
      (check ≠ (m.take 7).sum ∨ flags.getLsbD 0 = false → t.tod = .invalid) ∧
      (check = (m.take 7).sum → t.lines.tod = []) ∧
      (check ≠ (m.take 7).sum → ∃ passed, m.drop 1 = passed ++ t.lines.tod ∧ (∀ b, b ∈ passed → b ≠ 0xA5) ∧
        (t.lines.tod ≠ [] → t.lines.tod.head? = some 0xA5))

/-- An accepted pulse in Tracking: the loop update with its limits, and the carry step of the period it begins. A pulse
with the expected label in Slewing, the output Running or Muted: P toward the pulse within the slew limit, F as it
stands, and Tracking once the pulse is within the threshold. -/
def Obligations.AcceptedPulseUpdatesLoop : Prop :=
  (∀ (s : State) (label : BitVec 32) (e : Int), s.tb.state = .tracking → s.tod = .accepted label →
    s.tb.expected = some label → e = timeDiff ⟨label, 0⟩ s.tb.localTime → e.natAbs ≤ s.profile.threshold →
    ∃ t, exec .referencePulse s = .next t ∧ t = { s with tb := t.tb, tod := .none } ∧
      t.tb = { s.tb with
        freq := max (-(s.profile.freqLimit : Int))
          (min s.profile.freqLimit (s.tb.freq + (e * 100).tdiv s.profile.integral))
        phase := max (-(s.profile.slewLimit : Int)) (min s.profile.slewLimit ((e * 100).tdiv s.profile.proportional))
        carry := t.tb.carry, adjust := t.tb.adjust, cycle := some 0, applied := 0
        outlierRun := 0, missRun := 0, accepted := satInc s.tb.accepted, expected := some (label + 1)
        missDeadline := some (addTicks s.tb.localTime (10000000 + s.profile.pulseGuard))
        lastPulse := some ⟨s.tb.localTime, e⟩ } ∧
      t.tb.carry.natAbs ≤ 99 ∧
      t.tb.carry + 100 * t.tb.adjust = s.tb.carry + returned s.tb + (t.tb.freq + t.tb.phase)) ∧
  (∀ (s : State) (label : BitVec 32) (e : Int), s.tb.state = .slewing → s.tod = .accepted label →
    s.tb.expected = some label → e = timeDiff ⟨label, 0⟩ s.tb.localTime →
    (s.output.state = .running ∨ s.output.state = .muted) →
    ∃ t, exec .referencePulse s = .next t ∧ t = { s with tb := t.tb, tod := .none, alerts := t.alerts } ∧
      t.tb = { s.tb with
        state := if e.natAbs ≤ s.profile.threshold then .tracking else .slewing
        phase := max (-(s.profile.slewLimit : Int)) (min s.profile.slewLimit (e * 100))
        carry := t.tb.carry, adjust := t.tb.adjust, cycle := some 0, applied := 0
        outlierRun := 0, missRun := 0, accepted := satInc s.tb.accepted, expected := some (label + 1)
        missDeadline := some (addTicks s.tb.localTime (10000000 + s.profile.pulseGuard))
        lastPulse := some ⟨s.tb.localTime, e⟩ } ∧
      t.tb.carry.natAbs ≤ 99 ∧
      t.tb.carry + 100 * t.tb.adjust = s.tb.carry + returned s.tb + (s.tb.freq + t.tb.phase) ∧
      t.alerts = (if e.natAbs ≤ s.profile.threshold then (raise srcTimebase s).alerts else s.alerts))

/-- An outlier in Tracking or Slewing leaves F, sets P to 0 and counts; the third in a row starts acquisition, with h
and U counting from 0. -/
def Obligations.OutlierPulseCounts : Prop :=
  ∀ (s : State) (label want : BitVec 32) (e : Int), s.tod = .accepted label → s.tb.expected = some want →
    e = timeDiff ⟨label, 0⟩ s.tb.localTime →
    (s.tb.state = .tracking ∧ (label ≠ want ∨ s.profile.threshold < e.natAbs)) ∨ (s.tb.state = .slewing ∧ label ≠ want) →
    ∃ t, exec .referencePulse s = .next t ∧ t = { s with tb := t.tb, tod := .none, alerts := t.alerts } ∧
      t.tb.freq = s.tb.freq ∧ t.tb.phase = 0 ∧ t.tb.outliers = satInc s.tb.outliers ∧ t.tb.missRun = 0 ∧
      t.tb.accepted = s.tb.accepted ∧ t.tb.expected = some (want + 1) ∧ t.tb.localTime = s.tb.localTime ∧
      t.tb.cycle = some 0 ∧ t.tb.carry + 100 * t.tb.adjust = s.tb.carry + returned s.tb + s.tb.freq ∧
      t.tb.lastPulse = some ⟨s.tb.localTime, e⟩ ∧
      (s.tb.outlierRun < 2 → t.tb.state = s.tb.state ∧ t.tb.outlierRun = s.tb.outlierRun + 1 ∧ t.alerts = s.alerts ∧
        t.tb.holdover = s.tb.holdover) ∧
      (s.tb.outlierRun = 2 → t.tb.state = .acquiring ∧ t.tb.outlierRun = 0 ∧ t.tb.acquired = some label ∧
        t.tb.holdover = some ⟨0, 0⟩ ∧ t.alerts = (raise srcTimebase s).alerts)

/-- Labelled pulses that acquire. In Free, Holdover and Expired the first one moves to Acquiring as the first counted
pulse, and the period runs on (the outlier run is log 13); in Acquiring one whose label does not follow the first is
counted first instead. The one that completes acquisition with the output Running or Muted enters Tracking, or Slewing
beyond the threshold; with the output Idle or Waiting it steps local time to its label, as does one with the expected
label in Slewing, and every deadline that a block holds moves by e; the store keeps only Held frames within the margins. -/
def Obligations.AcquisitionStepsWhenStopped : Prop :=
  (∀ (s : State) (label : BitVec 32) (e : Int), s.tod = .accepted label → e = timeDiff ⟨label, 0⟩ s.tb.localTime →
    s.tb.state = .free ∨ s.tb.state = .holdover ∨ s.tb.state = .expired ∨
      (s.tb.state = .acquiring ∧ ∀ first, s.tb.acquired = some first → label ≠ first + 1) →
    ∃ t, exec .referencePulse s = .next t ∧ t = { s with tb := t.tb, tod := .none, alerts := t.alerts } ∧
      t.tb = { s.tb with
        state := .acquiring, acquired := some label, missRun := 0, lastPulse := some ⟨s.tb.localTime, e⟩
        missDeadline := some (addTicks s.tb.localTime (10000000 + s.profile.pulseGuard))
        outlierRun := if s.tb.state = .acquiring then s.tb.outlierRun else 0 } ∧
      t.alerts = (if s.tb.state = .acquiring then s.alerts else (raise srcTimebase s).alerts)) ∧
  (∀ (s : State) (first label : BitVec 32) (e : Int), s.tb.state = .acquiring → s.tb.acquired = some first →
    label = first + 1 → s.tod = .accepted label → e = timeDiff ⟨label, 0⟩ s.tb.localTime →
    (s.output.state = .running ∨ s.output.state = .muted) →
    ∃ t, exec .referencePulse s = .next t ∧
      t = { s with tb := t.tb, tod := .none, alerts := (raise srcTimebase s).alerts } ∧
      t.tb = { s.tb with
        state := if e.natAbs ≤ s.profile.threshold then .tracking else .slewing
        phase := if e.natAbs ≤ s.profile.threshold then 0
          else max (-(s.profile.slewLimit : Int)) (min s.profile.slewLimit (e * 100))
        carry := t.tb.carry, adjust := t.tb.adjust, cycle := some 0, applied := 0, acquired := none
        expected := some (label + 1), outlierRun := 0, missRun := 0, holdover := none, tracked := true
        missDeadline := some (addTicks s.tb.localTime (10000000 + s.profile.pulseGuard))
        lastPulse := some ⟨s.tb.localTime, e⟩ } ∧
      t.tb.carry.natAbs ≤ 99 ∧
      t.tb.carry + 100 * t.tb.adjust = s.tb.carry + returned s.tb + (s.tb.freq + t.tb.phase)) ∧
  ∀ (s : State) (label : BitVec 32) (e : Int), s.tod = .accepted label → e = timeDiff ⟨label, 0⟩ s.tb.localTime →
    (s.tb.state = .acquiring ∧ ∃ first, s.tb.acquired = some first ∧ label = first + 1) ∨
      (s.tb.state = .slewing ∧ s.tb.expected = some label) →
    (s.output.state = .idle ∨ s.output.state = .waiting) →
    ∃ t, exec .referencePulse s = .next t ∧
      t = { s with tb := t.tb, tod := .none, feeds := t.feeds, link := t.link, direction := t.direction,
                   output := t.output, store := t.store, monitors := t.monitors, alerts := t.alerts } ∧
      othersKept [mon5, mon6, mon8, mon9, mon10] s t ∧ raisedOnly [srcTimebase, srcFault, srcWarning] s t ∧
      t.tb.localTime = ⟨label, 0⟩ ∧ t.tb.state = .tracking ∧ t.tb.freq = s.tb.freq ∧ t.tb.phase = 0 ∧
      t.tb.carry + 100 * t.tb.adjust = s.tb.freq ∧ t.tb.cycle = some 0 ∧ t.tb.applied = 0 ∧
      t.tb.expected = some (label + 1) ∧
      t.tb.missDeadline = some (addTicks ⟨label, 0⟩ (10000000 + s.profile.pulseGuard)) ∧
      t.tb.holdover = none ∧ t.tb.tracked = true ∧ t.tb.acquired = none ∧ t.tb.steps = satInc s.tb.steps ∧
      t.feeds.fst = { s.feeds.fst with silenceDeadline := addTicks s.feeds.fst.silenceDeadline e } ∧
      t.feeds.snd = { s.feeds.snd with silenceDeadline := addTicks s.feeds.snd.silenceDeadline e } ∧
      t.link = { s.link with slots := t.link.slots } ∧
      (∀ k, t.link.slots.get k = (s.link.slots.get k).map fun q => { q with deadline := movedDeadline e q.deadline }) ∧
      t.direction = { s.direction with presence := s.direction.presence.map fun v =>
        { v with reference := addTicks v.reference e, deadline := addTicks v.deadline e } } ∧
      t.output.state = s.output.state ∧
      t.output.interval = s.output.interval.map (fun v =>
        { v with packets := v.packets.map fun x => (x.1, addTicks x.2 e) }) ∧
      (∀ i info c ps, slotAt t i = .held info c ps → slotAt s i = .held info c ps ∧
        (s.profile.guardMargin : Int) ≤ timeDiff info.release ⟨label, 0⟩ ∧
        timeDiff info.release ⟨label, 0⟩ ≤ 60 * s.profile.frameInterval) ∧
      (∀ i, (∀ info c ps, slotAt s i ≠ .held info c ps) → slotAt t i = slotAt s i) ∧
      ((∀ i info c ps, slotAt s i ≠ .held info c ps) → t.store.timeline = none)

/-- A missing pulse, by its deadline or by an unlabelled pulse. In Tracking and Slewing P is 0, a new period begins with F
alone, and at the missing-pulse count the timebase enters Holdover with h and U at 0; there too the expected label goes
up by one (log 14). In Acquiring the count of labels starts again. An unlabelled pulse in Free, Holdover and Expired is
counted, and changes no other item of the timebase. Every pulse takes the held message. -/
def Obligations.MissingPulseLeadsToHoldover : Prop :=
  (∀ (s u : State) (c : Instr) (next : NetTime),
    (c = .missingPulseDeadline ∧ u = s ∧ ∃ d, s.tb.missDeadline = some d ∧ 0 ≤ timeDiff s.tb.localTime d ∧
      next = addTicks d 10000000) ∨
    (c = .referencePulse ∧ u = { s with tod := .none } ∧ (s.tod = .none ∨ s.tod = .invalid) ∧
      next = addTicks s.tb.localTime (10000000 + s.profile.pulseGuard)) →
    (s.tb.state = .tracking ∨ s.tb.state = .slewing →
      ∃ t, exec c s = .next t ∧ t = { u with tb := t.tb, alerts := t.alerts } ∧
        t.tb = { s.tb with
          state := t.tb.state, phase := 0, carry := t.tb.carry, adjust := t.tb.adjust, cycle := some 0, applied := 0
          acquired := t.tb.acquired, expected := s.tb.expected.map (· + 1), missDeadline := t.tb.missDeadline
          missRun := satInc s.tb.missRun, holdover := t.tb.holdover, missing := satInc s.tb.missing } ∧
        t.tb.carry.natAbs ≤ 99 ∧
        t.tb.carry + 100 * t.tb.adjust = s.tb.carry + returned s.tb + s.tb.freq ∧
        ((satInc s.tb.missRun).toNat < s.profile.missCount →
          t.tb.state = s.tb.state ∧ t.tb.missDeadline = some next ∧ t.tb.holdover = s.tb.holdover ∧
          t.tb.acquired = s.tb.acquired ∧ t.alerts = s.alerts) ∧
        (s.profile.missCount ≤ (satInc s.tb.missRun).toNat →
          t.tb.state = .holdover ∧ t.tb.missDeadline = none ∧ t.tb.holdover = some ⟨0, 0⟩ ∧ t.tb.acquired = none ∧
          t.alerts = (raise srcTimebase s).alerts)) ∧
    (s.tb.state = .acquiring →
      exec c s = .next { u with tb := { s.tb with
        acquired := none, missRun := satInc s.tb.missRun, missing := satInc s.tb.missing
        missDeadline := some next } })) ∧
  ∀ s : State, s.tod = .none ∨ s.tod = .invalid →
    s.tb.state = .free ∨ s.tb.state = .holdover ∨ s.tb.state = .expired →
    exec .referencePulse s = .next { s with tod := .none, tb := { s.tb with missing := satInc s.tb.missing } }

/-! ### Feed inputs, Path Merge and Frame Store (03, 04) -/

/-- A good header is offered when its input is Locked or Impaired and, in Select, active. An offered frame is a copy
when a Held or Emitting slot carries its sequence; else it takes the lowest-numbered Free slot with its release instant
stamp + D_net + T_trim − L_x; with no Free slot it is refused, one event of M7. -/
def Obligations.HeaderIsOfferedToStore : Prop :=
  ∀ (s : State) (i : InputNo) (bytes h : List Byte), endsHeader s i bytes h → headerFault s.profile h = none →
    ∃ t fate, exec (.headerAccepted i bytes) s = .next t ∧
      t = { s with feeds := t.feeds, store := t.store, monitors := t.monitors, alerts := t.alerts
                   lines := feedKept i [] s.lines } ∧
      feedOf t (otherInput i) = feedOf s (otherInput i) ∧
      feedOf t i = { feedOf s i with inProgress := some ⟨h, fate⟩ } ∧
      t.store = { s.store with slots := t.store.slots } ∧ othersKept [mon7] s t ∧
      raisedOnly [srcFault, srcWarning] s t ∧
      (fate ≠ .refused → t.monitors = s.monitors ∧ t.alerts = s.alerts) ∧
      (fate ≠ .stored → t.store = s.store) ∧
      (((feedOf s i).acq ≠ .locked ∧ (feedOf s i).acq ≠ .impaired) ∨
        (s.profile.pathMode = .select ∧ s.merge.active ≠ i) → fate = .notOffered) ∧
      ((feedOf s i).acq = .locked ∨ (feedOf s i).acq = .impaired →
        s.profile.pathMode = .merge ∨ s.merge.active = i →
        ((∃ j, (slotAt s j).carries (headerSeq h) = true) → fate = .copy) ∧
        ((∀ j, (slotAt s j).carries (headerSeq h) = false) →
          ((∀ j, slotAt s j ≠ .free) → fate = .refused ∧ eventCounted mon7 s t) ∧
          ∀ j, slotAt s j = .free → (∀ k, k < j → slotAt s k ≠ .free) →
            fate = .stored ∧ (∀ k, k ≠ j → slotAt t k = slotAt s k) ∧
            ∃ shadow, slotAt t j = .filling ⟨headerSeq h, headerStamp h, i,
                addTicks (headerStamp h) ((s.profile.netDelay : Int) + s.profile.trim - s.profile.latency)⟩ shadow ∧
              (shadow = true ↔ ∃ k info sh, slotAt s k = .filling info sh ∧ info.seq = headerSeq h)))

/-- A header that is not good completes its frame as a bad frame, counted by its cause, with the silence deadline four
frame intervals ahead, and the hunt resumes at its third byte. A frame past its accepted header completes bad by its frame
check or by a packet sync: it is counted by its cause, with the silence deadline four frame intervals ahead, nothing of it
is in progress any more, none of its cues is taken, and the slot it was filling is freed. A silence deadline reached is a
bad frame too, and moves four frame intervals. (The bytes kept of a line are log 5.) -/
def Obligations.BadFramesMoveAcquisition : Prop :=
  (∀ (s : State) (i : InputNo) (bytes h : List Byte) (cause : BadCause), endsHeader s i bytes h →
    headerFault s.profile h = some cause →
    ∃ t kept, exec (.frameCompletion i bytes) s = .next t ∧
      t = { s with feeds := t.feeds, merge := t.merge, monitors := t.monitors, alerts := t.alerts
                   lines := feedKept i kept s.lines } ∧
      (∃ passed, h.drop 2 = passed ++ kept ∧ (kept = [] ∨ kept = [0xC3] ∨ kept.take 2 = [0xC3, 0x5E]) ∧
        ∀ k, k < passed.length → ((h.drop 2).drop k).take 2 ≠ [0xC3, 0x5E] ∧ (h.drop 2).drop k ≠ [0xC3]) ∧
      badFrameTaken s.profile.loss (feedOf s i) (feedOf t i) ∧ badFrameEffects i s t ∧
      feedOf t i = { feedOf s i with
        acq := (feedOf t i).acq, goodRun := (feedOf t i).goodRun, badRun := (feedOf t i).badRun
        badFrames := satInc (feedOf s i).badFrames
        silenceDeadline := addTicks s.tb.localTime (4 * s.profile.frameInterval)
        headerFailures := (feedOf t i).headerFailures, foreignNetwork := (feedOf t i).foreignNetwork } ∧
      (cause = .headerCheck → (feedOf t i).headerFailures = satInc (feedOf s i).headerFailures) ∧
      (cause ≠ .headerCheck → (feedOf t i).headerFailures = (feedOf s i).headerFailures) ∧
      (cause = .networkId → (feedOf t i).foreignNetwork = satInc (feedOf s i).foreignNetwork) ∧
      (cause ≠ .networkId → (feedOf t i).foreignNetwork = (feedOf s i).foreignNetwork)) ∧
  (∀ (s : State) (i : InputNo) (bytes : List Byte) (fr : InProgress) (rest : List Byte) (body : FrameBody)
      (cause : BadCause), endsFrame s i bytes fr rest body → bodyFault fr.header rest body = some cause →
    let filling := fillingOf s i (headerSeq fr.header)
    ∃ t, exec (.frameCompletion i bytes) s = .next t ∧
      t = { s with feeds := t.feeds, merge := t.merge, store := t.store, monitors := t.monitors, alerts := t.alerts
                   lines := feedKept i [] s.lines } ∧
      badFrameTaken s.profile.loss (feedOf s i) (feedOf t i) ∧ badFrameEffects i s t ∧
      feedOf t i = { feedOf s i with
        acq := (feedOf t i).acq, goodRun := (feedOf t i).goodRun, badRun := (feedOf t i).badRun, inProgress := none
        badFrames := satInc (feedOf s i).badFrames
        silenceDeadline := addTicks s.tb.localTime (4 * s.profile.frameInterval)
        checkFailures :=
          if cause = .frameCheck then satInc (feedOf s i).checkFailures else (feedOf s i).checkFailures } ∧
      (fr.fate ≠ .stored ∨ filling = none → t.store = s.store) ∧
      ∀ j, fr.fate = .stored → filling = some j →
        t.store = { s.store with slots := t.store.slots } ∧ slotAt t j = .free ∧
        ∀ k, k ≠ j → slotAt t k = slotAt s k) ∧
  ∀ (s : State) (i : InputNo), 0 ≤ timeDiff s.tb.localTime (feedOf s i).silenceDeadline →
    ∃ t, exec (.silenceInterval i) s = .next t ∧
      t = { s with feeds := t.feeds, merge := t.merge, monitors := t.monitors, alerts := t.alerts } ∧
      badFrameTaken s.profile.loss (feedOf s i) (feedOf t i) ∧ badFrameEffects i s t ∧
      feedOf t i = { feedOf s i with
        acq := (feedOf t i).acq, goodRun := (feedOf t i).goodRun, badRun := (feedOf t i).badRun
        badFrames := satInc (feedOf s i).badFrames
        silenceDeadline := addTicks (feedOf s i).silenceDeadline (4 * s.profile.frameInterval) }

/-- R38: an input in Locked at a good frame, at a bad frame of either kind, and at a silence interval. -/
def Obligations.LockedInputAtFrameEvents : Prop :=
  ∀ (s : State) (i : InputNo), (feedOf s i).acq = .locked →
    let bad (t : State) : Prop :=
      (s.profile.loss ≤ 1 → (feedOf t i).acq = .lost ∧ (feedOf t i).goodRun = 0 ∧ (feedOf t i).badRun = 0) ∧
      (1 < s.profile.loss → (feedOf t i).acq = .impaired ∧ (feedOf t i).goodRun = 0 ∧ (feedOf t i).badRun = 1)
    (∀ bytes fr rest body, endsFrame s i bytes fr rest body →
      ∃ t, exec (.frameCompletion i bytes) s = .next t ∧
        (bodyFault fr.header rest body = none → (feedOf t i).acq = .locked ∧
          (feedOf t i).goodRun = (feedOf s i).goodRun ∧ (feedOf t i).badRun = (feedOf s i).badRun) ∧
        (bodyFault fr.header rest body ≠ none → bad t)) ∧
    (∀ bytes h, endsHeader s i bytes h → headerFault s.profile h ≠ none →
      ∃ t, exec (.frameCompletion i bytes) s = .next t ∧ bad t) ∧
    (0 ≤ timeDiff s.tb.localTime (feedOf s i).silenceDeadline →
      ∃ t, exec (.silenceInterval i) s = .next t ∧ bad t)

/-- Force Path from the director in Select: the other input is switched to and counted; the active input makes the
revert count absent. In Merge it answers WrongState. -/
def Obligations.ForcePathSwitches : Prop :=
  ∀ (s : State) (p : Port) (i : InputNo), s.direction.director = some p →
    (s.profile.pathMode = .merge → exec (.forcePath p [if i = .one then 1 else 2]) s =
      .next { s with ports := answered p 0x0E .wrongState [] s.ports }) ∧
    (s.profile.pathMode = .select → s.merge.active = i → exec (.forcePath p [if i = .one then 1 else 2]) s =
      .next { s with merge := { s.merge with revert := none }, ports := answered p 0x0E .done [] s.ports }) ∧
    (s.profile.pathMode = .select → s.merge.active ≠ i → exec (.forcePath p [if i = .one then 1 else 2]) s =
      .next { s with merge := ⟨i, none, satInc s.merge.switches⟩, alerts := (raise srcSwitch s).alerts,
                     ports := answered p 0x0E .done [] s.ports })

/-- A good frame completes: it is counted with its invalid cues, moves acquisition and Path Merge, and, when it was
offered, gives its valid cues in record order to the Break Table. A copy is compared by its frame check value: a duplicate
when it is equal or when no copy is held any more, else one event of M3. A frame in a slot of its own is compared so, and
freed, when its sequence is held; else below the guard margin it is freed as late (M5), above 60 × T_f as early (M6),
anchors an Absent timeline, is Held on the timeline, is Held whole intervals later behind a gap entry (M8), or is freed
(M8). That a header refused for want of a slot gives its cues all the same is log 26, a joined gap entry log 29. Of the
model's making too: boundary times are R63 literally (log 10), a gap entry is made whether or not the timeline has passed
its sequence (log 37), and a frame whole intervals later, at 32,768 from a Held or Emitting one, is freed (log 43). -/
def Obligations.StoredFrameCompletes : Prop :=
  ∀ (s : State) (i : InputNo) (bytes : List Byte) (fr : InProgress) (rest : List Byte) (body : FrameBody),
    endsFrame s i bytes fr rest body → bodyFault fr.header rest body = none → 0 < s.profile.frameInterval →
    let q := headerSeq fr.header
    let u := if fr.fate = .notOffered then s else (body.cues.filter cueValid).foldl takeCue s
    let sameFrame (t : State) (c : BitVec 32) : Prop :=
      (c = body.check → t.store.duplicates = satInc s.store.duplicates ∧ monRec t mon3 = monRec s mon3) ∧
      (c ≠ body.check → t.store.duplicates = s.store.duplicates ∧ eventCounted mon3 s t)
    ∃ t, exec (.frameCompletion i bytes) s = .next t ∧
      t = { s with feeds := t.feeds, merge := t.merge, store := t.store, monitors := t.monitors, alerts := t.alerts
                   breaks := u.breaks, link := u.link, memory := u.memory, lines := feedKept i [] s.lines } ∧
      feedOf t (otherInput i) = feedOf s (otherInput i) ∧
      raisedOnly [srcInput i, srcFault, srcWarning, srcSwitch, srcCreated, srcBreak, srcAbandoned] s t ∧
      othersKept [monInput i, mon3, mon5, mon6, mon8, mon14] s t ∧ monRec t mon14 = monRec u mon14 ∧
      conditionTaken (monInput i) ((feedOf t i).acq == .lost) s t ∧
      goodFrameTaken s.profile.verify (feedOf s i) (feedOf t i) ∧ goodFrameMerge i s t ∧
      feedOf t i = { feedOf s i with
        acq := (feedOf t i).acq, goodRun := (feedOf t i).goodRun, badRun := (feedOf t i).badRun
        goodFrames := satInc (feedOf s i).goodFrames, inProgress := none
        silenceDeadline := addTicks s.tb.localTime (4 * s.profile.frameInterval)
        cuesSkipped := satInc^[(body.cues.filter fun c => !cueValid c).length] (feedOf s i).cuesSkipped } ∧
      t.store = { s.store with slots := t.store.slots, timeline := t.store.timeline, framesHeld := t.store.framesHeld
                               duplicates := t.store.duplicates } ∧
      (fr.fate = .notOffered ∨ fr.fate = .refused ∨ (fr.fate = .stored ∧ fillingOf s i q = none) →
        t.store = s.store ∧ othersKept [monInput i, mon14] s t) ∧
      (fr.fate = .copy → t.store = { s.store with duplicates := t.store.duplicates } ∧
        othersKept [monInput i, mon3, mon14] s t ∧ (∀ k c, carriedBy s q k c → sameFrame t c) ∧
        ((∀ k, (slotAt s k).carries q = false) →
          t.store.duplicates = satInc s.store.duplicates ∧ monRec t mon3 = monRec s mon3)) ∧
      ∀ j info shadow, fr.fate = .stored → fillingOf s i q = some j → slotAt s j = .filling info shadow →
        (∀ k, k ≠ j → slotAt t k = slotAt s k) ∧
        (∀ k c, carriedBy s q k c → slotAt t j = .free ∧ t.store.timeline = s.store.timeline ∧
          t.store.framesHeld = s.store.framesHeld ∧ othersKept [monInput i, mon3, mon14] s t ∧ sameFrame t c) ∧
        ((∀ k, (slotAt s k).carries q = false) →
          let margin := timeDiff info.release s.tb.localTime
          let early : Int := 60 * s.profile.frameInterval
          let freed : Prop := slotAt t j = .free ∧ t.store.timeline = s.store.timeline ∧
            t.store.framesHeld = s.store.framesHeld
          let held : Prop := slotAt t j = .held info body.check body.packets ∧
            t.store.framesHeld = satInc s.store.framesHeld
          t.store.duplicates = s.store.duplicates ∧ monRec t mon3 = monRec s mon3 ∧
          (margin < s.profile.guardMargin →
            freed ∧ eventCounted mon5 s t ∧ othersKept [monInput i, mon5, mon14] s t) ∧
          (s.profile.guardMargin ≤ margin → early < margin →
            freed ∧ eventCounted mon6 s t ∧ othersKept [monInput i, mon6, mon14] s t) ∧
          (s.profile.guardMargin ≤ margin → margin ≤ early → s.store.timeline = none →
            held ∧ othersKept [monInput i, mon14] s t ∧
            ∃ tl g, t.store.timeline = some tl ∧ tl.anchorSeq = info.seq ∧ tl.anchorTime = info.release ∧ tl.gaps = [] ∧
              tl.runningGaps = 0 ∧ tl.nextBoundary = addTicks info.release (g * s.profile.frameInterval) ∧
              tl.lastSeq = info.seq + BitVec.ofInt 16 (g - 1) ∧ 0 ≤ timeDiff tl.nextBoundary s.tb.localTime ∧
              timeDiff tl.nextBoundary s.tb.localTime < s.profile.frameInterval) ∧
          (s.profile.guardMargin ≤ margin → margin ≤ early → ∀ tl, s.store.timeline = some tl →
            let d := timeDiff info.release (boundaryTime s.profile.frameInterval tl q)
            let last : Prop := ∀ k x, (slotAt s k).info? = some x → (slotAt s k).check? ≠ none → follows q x.seq = true
            (d = 0 → held ∧ t.store.timeline = some tl ∧ othersKept [monInput i, mon14] s t) ∧
            (∀ m : Nat, 1 ≤ m → d = (m * s.profile.frameInterval : Nat) → last →
              held ∧ eventCounted mon8 s t ∧ othersKept [monInput i, mon8, mon14] s t ∧
              t.store.timeline = some { tl with gaps := insertGap tl.anchorSeq q m tl.gaps } ∧
              (follows q tl.anchorSeq = true → boundaryTime s.profile.frameInterval
                { tl with gaps := insertGap tl.anchorSeq q m tl.gaps } q = info.release)) ∧
            (d ≠ 0 → (∀ m : Nat, 1 ≤ m → d ≠ (m * s.profile.frameInterval : Nat)) ∨ ¬ last →
              freed ∧ eventCounted mon8 s t ∧ othersKept [monInput i, mon8, mon14] s t)))

/-- An anchored timeline: its next boundary is the earliest grid time not earlier than local time; that boundary carries
the sequence after the timeline sequence, and R63 gives that sequence the time of that boundary. -/
def Obligations.AnchoredTimelineGrid : Prop :=
  ∀ (tf : Nat) (now release : NetTime) (q : Seq), 10000 ≤ tf → tf ≤ 1000000 →
    -(32000 * tf : Int) ≤ timeDiff release now → timeDiff release now ≤ 32000 * tf →
    let tl := anchorTo tf now q release
    tl.anchorSeq = q ∧ tl.anchorTime = release ∧ 0 ≤ timeDiff tl.nextBoundary now ∧
      timeDiff tl.nextBoundary now < tf ∧ (fixCarry tf tl).1 = some (tl.lastSeq + 1) ∧
      boundaryTime tf tl (tl.lastSeq + 1) = tl.nextBoundary

/-! ### Emission Output (05) -/

/-- A boundary at an output that is Idle or Waiting, with no Apply pending: the ready line is sampled, Waiting is left
for Running or Muted, nothing is formed, the Break Table takes the boundary and its timers count down, the next boundary
advances by T_f, and every Held frame whose release instant is earlier than the boundary is freed and counted as unsent.
The line's level as an operand and the order of the steps are logs 3 and 8; that a frame Held behind a gap entry at a passed
sequence is freed by the same test is log 44. -/
def Obligations.BoundaryWhileStopped : Prop :=
  ∀ (s : State) (ready : Bool) (tl : Timeline), s.store.timeline = some tl →
    0 ≤ timeDiff s.tb.localTime tl.nextBoundary → s.settings.apply = .none →
    (s.output.state = .idle ∨ s.output.state = .waiting) →
    let u := breaksAfter (fixCarry s.profile.frameInterval tl).1 true s
    ∃ t, exec (.boundary ready) s = .next t ∧
      t = { s with store := t.store, output := t.output, breaks := u.breaks, link := u.link, memory := u.memory,
                   monitors := t.monitors, alerts := t.alerts } ∧
      othersKept [mon13] s t ∧ monRec t mon13 = monRec u mon13 ∧
      raisedOnly [srcOutput, srcMuted, srcBreak, srcAbandoned, srcFault, srcWarning] s t ∧
      t.output = { s.output with state := t.output.state, muteLine := t.output.muteLine, muteAt := t.output.muteAt
                                 causes := { s.output.causes with exciter := !ready }
                                 notReady := if ready then s.output.notReady else satInc s.output.notReady } ∧
      (s.output.state = .idle → t.output.state = .idle ∧ t.output.muteLine = s.output.muteLine ∧
        t.output.muteAt = s.output.muteAt) ∧
      (s.output.state = .waiting → noCause t.output.causes = true →
        t.output.state = .running ∧ t.output.muteLine = s.output.muteLine ∧ t.output.muteAt = s.output.muteAt ∧
        ∀ port, (portOf t.alerts.ports port).marks.get srcOutput = true) ∧
      (s.output.state = .waiting → noCause t.output.causes = false →
        t.output.state = .muted ∧ t.output.muteLine = true ∧ t.output.muteAt = none ∧
        ∀ port src, src ∈ [srcOutput, srcMuted] → (portOf t.alerts.ports port).marks.get src = true) ∧
      t.store = { s.store with
        slots := t.store.slots, freedUnsent := satInc^[pastCount s tl.nextBoundary none] s.store.freedUnsent
        timeline := some { (fixCarry s.profile.frameInterval tl).2 with
          nextBoundary := addTicks tl.nextBoundary s.profile.frameInterval } } ∧
      (∀ j, slotAt t j = if isPast tl.nextBoundary (slotAt s j) then .free else slotAt s j)

/-- A boundary at an output that is Running or Muted, with no Apply pending. With no mute cause left by the sample it
delivers one interval, back in Running if it was Muted: a gap interval, a missing interval, or the Held frame of the
boundary's sequence through the Splice Unit, restamped, each packet at its slot instant B + floor(k × T_f / N_p); with a
cause it is Muted at once, and the interval is formed and withheld, its slot freed and nothing restamped. The Break Table
takes the boundary first, M4 is evaluated at the sequence, and late Held frames are freed (M5). The line's level as an
operand and the order of the steps are logs 3 and 8; that a frame Held behind a gap entry at a passed sequence is freed by the
same test is log 44. -/
def Obligations.BoundaryWhileRunning : Prop :=
  ∀ (s : State) (ready : Bool) (tl : Timeline), s.store.timeline = some tl →
    0 ≤ timeDiff s.tb.localTime tl.nextBoundary → s.settings.apply = .none →
    (s.output.state = .running ∨ s.output.state = .muted) →
    let b := tl.nextBoundary
    let carried := (fixCarry s.profile.frameInterval tl).1
    let u := breaksAfter carried false s
    let causes : CauseSet := { s.output.causes with exciter := !ready }
    let running := noCause causes
    let sent (t : State) (kind : IntervalKind) (packets : List ServicePacket) (slot : Option (Fin 64)) : Prop :=
      t.output.interval = if running then some ⟨b, carried, kind, withInstants s.profile b 0 packets, 0, slot⟩ else none
    let still (t : State) : Prop := t.breaks = u.breaks ∧ t.memory = u.memory ∧ t.splice = s.splice ∧
      monRec t mon11 = monRec s mon11
    let nulls := List.replicate s.profile.packets nullPacket
    ∃ t, exec (.boundary ready) s = .next t ∧
      t = { s with store := t.store, output := t.output, breaks := t.breaks, link := u.link, memory := t.memory,
                   splice := t.splice, monitors := t.monitors, alerts := t.alerts } ∧
      othersKept [mon4, mon5, mon11, mon13] s t ∧ monRec t mon13 = monRec u mon13 ∧
      raisedOnly [srcOutput, srcMuted, srcBreak, srcAbandoned, srcFault, srcWarning] s t ∧
      t.output = { s.output with
        state := t.output.state, muteLine := t.output.muteLine, muteAt := t.output.muteAt
        interval := t.output.interval, missing := t.output.missing, gap := t.output.gap
        causes := { causes with fault := t.output.causes.fault }
        notReady := if ready then s.output.notReady else satInc s.output.notReady
        delivered := if running then satInc s.output.delivered else s.output.delivered
        muted := if running then s.output.muted else satInc s.output.muted } ∧
      (running = true →
        (t.output.state = .running ∧ t.output.muteLine = false ∧ t.output.causes.fault = false ∧
          t.output.muteAt = some (addTicks b s.profile.frameInterval)) ∨
        (t.output.state = .muted ∧ t.output.muteLine = true ∧ t.output.causes.fault = true ∧ t.output.muteAt = none ∧
          ∀ port src, src ∈ [srcOutput, srcMuted] → (portOf t.alerts.ports port).marks.get src = true)) ∧
      (running = true → s.output.state = .muted →
        ∀ port, (portOf t.alerts.ports port).marks.get srcOutput = true) ∧
      (running = false → t.output.state = .muted ∧
        (s.output.state = .muted → t.output.muteLine = s.output.muteLine ∧ t.output.muteAt = s.output.muteAt) ∧
        (s.output.state = .running → t.output.muteLine = true ∧ t.output.muteAt = none ∧
          ∀ port src, src ∈ [srcOutput, srcMuted] → (portOf t.alerts.ports port).marks.get src = true)) ∧
      (OutputInv s → t.output.causes.fault = faultHolds t) ∧
      (∀ (packets : List ServicePacket) (k : Nat) (x : ServicePacket × NetTime),
        (withInstants s.profile b 0 packets)[k]? = some x →
        packets[k]? = some x.1 ∧ x.2 = addTicks b ((k * s.profile.frameInterval / s.profile.packets : Nat) : Int)) ∧
      t.store = { s.store with
        slots := t.store.slots
        timeline := some { (fixCarry s.profile.frameInterval tl).2 with
          nextBoundary := addTicks b s.profile.frameInterval } } ∧
      (carried = none → still t ∧ sent t .gap nulls none ∧ t.output.gap = satInc s.output.gap ∧
        t.output.missing = s.output.missing ∧ monRec t mon4 = monRec s mon4 ∧ t.output.causes.fault = causes.fault) ∧
      (∀ q, carried = some q → heldOf s q = none → still t ∧ sent t .missing nulls none ∧
        t.output.missing = satInc s.output.missing ∧ t.output.gap = s.output.gap ∧ conditionTaken mon4 true s t) ∧
      (carried = none ∨ (∃ q, carried = some q ∧ heldOf s q = none) →
        (∀ j, slotAt t j = if isPast b (slotAt s j) then .free else slotAt s j) ∧
        monRec t mon5 = monRec ((evalEvent mon5)^[pastCount s b none] s) mon5) ∧
      (∀ q j info c ps, carried = some q → heldOf s q = some j → slotAt s j = .held info c ps →
        let f := spliceFrame running ps u
        sent t .programme f.1 (some j) ∧ t.breaks = f.2.breaks ∧ t.memory = f.2.memory ∧ t.splice = f.2.splice ∧
        monRec t mon11 = monRec f.2 mon11 ∧ t.output.missing = s.output.missing ∧ t.output.gap = s.output.gap ∧
        conditionTaken mon4 false s t ∧ slotAt t j = (if running then .emitting info c ps else .free) ∧
        (∀ k, k ≠ j → slotAt t k = if isPast b (slotAt s k) then .free else slotAt s k) ∧
        monRec t mon5 = monRec ((evalEvent mon5)^[pastCount s b (some j)] s) mon5 ∧
        ((∀ w, (windowAt s w).enable = false) → f.1 = ps ∧ t.splice = s.splice))

/-- Set Mute on from the director adds the Command cause and mutes a Running output at once; off removes the cause and
leaves the output state. -/
def Obligations.SetMuteChangesCommandCause : Prop :=
  ∀ (s : State) (p : Port), s.direction.director = some p →
    (∃ t, exec (.setMute p [1]) s = .next t ∧ t = { s with output := t.output, alerts := t.alerts, ports := t.ports } ∧
      t.ports = answered p 0x0D .done [] s.ports ∧ t.output.causes = { s.output.causes with command := true } ∧
      (s.output.state ≠ .running ∨ s.output.causes.command = true →
        t.output = { s.output with causes := t.output.causes } ∧ t.alerts = s.alerts) ∧
      (s.output.state = .running → s.output.causes.command = false →
        t.output = { s.output with causes := t.output.causes, state := .muted, muteLine := true, muteAt := none } ∧
        t.alerts = (raise srcMuted (raise srcOutput s)).alerts)) ∧
    exec (.setMute p [0]) s = .next { s with
      output := { s.output with causes := { s.output.causes with command := false } }
      ports := answered p 0x0D .done [] s.ports }

/-- Start Emission takes an Idle output to Waiting, unless an Apply of T_f or N_p is pending; Stop Emission takes any
other output to Idle with the mute line asserted, and returns the Emitting slot while its packets go on. -/
def Obligations.StartAndStopEmission : Prop :=
  ∀ (s : State) (p : Port), s.direction.director = some p →
    (s.output.state = .idle → formatPending s = false →
      exec (.startEmission p []) s = .next { s with
        output := { s.output with state := .waiting }, alerts := (raise srcOutput s).alerts
        ports := answered p 0x0B .done [] s.ports }) ∧
    (s.output.state ≠ .idle ∨ formatPending s = true →
      exec (.startEmission p []) s = .next { s with ports := answered p 0x0B .wrongState [] s.ports }) ∧
    (s.output.state = .idle →
      exec (.stopEmission p []) s = .next { s with ports := answered p 0x0C .done [] s.ports }) ∧
    (s.output.state ≠ .idle →
      ∃ t, exec (.stopEmission p []) s = .next t ∧
        t = { s with store := t.store, output := t.output, alerts := (raise srcOutput s).alerts
                     ports := answered p 0x0C .done [] s.ports } ∧
        t.output = { s.output with state := .idle, muteLine := true, muteAt := none, interval := t.output.interval } ∧
        t.output.interval = s.output.interval.map (fun v => { v with slot := none }) ∧
        t.store = { s.store with slots := t.store.slots } ∧
        (∀ j, slotAt t j = if s.output.interval.bind (·.slot) = some j then .free else slotAt s j))

/-- The exciter's lines: at its slot instant the next packet stands on the data lines, with the frame marker for slot 0
alone; the last one ends the delivery and frees the Emitting slot. With no boundary at B + T_f the mute line is
asserted there. The slot instants of N_p packets rise by at least 19 ticks from slot to slot, from B on and before
B + T_f. -/
def Obligations.ExciterLinesFollowInterval : Prop :=
  (∀ (s : State) (v : Interval) (packet : ServicePacket) (instant : NetTime), s.output.interval = some v →
    v.packets[v.next]? = some (packet, instant) → 0 ≤ timeDiff s.tb.localTime instant →
    ∃ t, exec .packetPresentation s = .next t ∧ t = { s with output := t.output, store := t.store } ∧
      t.output = { s.output with dataLines := some packet, marker := decide (v.next = 0), interval := t.output.interval } ∧
      t.store = { s.store with slots := t.store.slots } ∧
      (v.next + 1 < v.packets.length →
        t.output.interval = some { v with next := v.next + 1 } ∧ t.store = s.store) ∧
      (v.next + 1 = v.packets.length →
        t.output.interval = none ∧ ∀ j, slotAt t j = if v.slot = some j then .free else slotAt s j)) ∧
  (∀ (s : State) (d : NetTime), s.output.state = .running → s.output.muteLine = false → s.output.muteAt = some d →
    0 ≤ timeDiff s.tb.localTime d →
    (∀ tl, s.store.timeline = some tl → timeDiff s.tb.localTime tl.nextBoundary < 0) →
    exec .muteLineAssert s = .next { s with output := { s.output with muteLine := true, muteAt := none } }) ∧
  ∀ (p : Profile) (b : NetTime) (packets : List ServicePacket), 10000 ≤ p.frameInterval →
    p.frameInterval ≤ 1000000 → 8 ≤ p.packets → p.packets ≤ 512 → packets.length = p.packets →
    (withInstants p b 0 packets).map (·.1) = packets ∧
    (∀ x : ServicePacket × NetTime, (withInstants p b 0 packets)[0]? = some x → x.2 = b) ∧
    (∀ (k : Nat) (x y : ServicePacket × NetTime), (withInstants p b 0 packets)[k]? = some x →
      (withInstants p b 0 packets)[k + 1]? = some y → 19 ≤ timeDiff y.2 x.2) ∧
    (∀ (k : Nat) (x : ServicePacket × NetTime), (withInstants p b 0 packets)[k]? = some x →
      0 ≤ timeDiff x.2 b ∧ timeDiff x.2 b < p.frameInterval)

/-! ### Break Table (06) -/

/-- A new break. Create Break from the director: the tests in order; a break that passes takes the lowest-numbered Free
record, or the oldest terminal one, as a new Pending break, and conflicting records are cancelled when replace is set. An
Announce cue for the zone whose break id no record holds: too late, in conflict, or with no record to take (both with one
event of M14) it is counted and dropped; otherwise it takes a record in the same way. -/
def Obligations.CreateBreakTakesRecord : Prop :=
  (∀ (s : State) (p : Port) (a : BreakArgs) (replace : Bool), s.direction.director = some p → breakArgsValid a = true →
    let c := Instr.createBreak p (createBytes a replace)
    let cs := conflicting s none a.windows a.sIn a.frames
    ((findBreak s a.id).isSome = true →
      exec c s = .next { s with ports := answered p 0x0F .conflict [] s.ports }) ∧
    (findBreak s a.id = none → tooLate s a.sIn = true →
      exec c s = .next { s with ports := answered p 0x0F .tooLate [] s.ports }) ∧
    (findBreak s a.id = none → tooLate s a.sIn = false → cs ≠ [] → replace = false ∨ (∃ q, q ∈ cs ∧ isOnAir s q = true) →
      exec c s = .next { s with ports := answered p 0x0F .conflict [] s.ports }) ∧
    (findBreak s a.id = none → tooLate s a.sIn = false → cs = [] → recordForNew s = none →
      exec c s = .next { s with ports := answered p 0x0F .tableFull [] s.ports }) ∧
    (∀ r, findBreak s a.id = none → tooLate s a.sIn = false →
      (recOf s r = none ∧ ∀ q, q < r → recOf s q ≠ none) ∨
        (cs = [] ∧ (∀ q, recOf s q ≠ none) ∧ s.breaks.terminalOrder.head? = some r) →
      cs = [] ∨ (replace = true ∧ ∀ q, q ∈ cs → isOnAir s q = false) →
      ∃ t, exec c s = .next t ∧
        t = { s with breaks := t.breaks, link := t.link, memory := t.memory, alerts := t.alerts
                     ports := answered p 0x0F .done [] s.ports } ∧
        raisedOnly [srcCreated, srcBreak, srcAbandoned] s t ∧
        (∃ b, recOf t r = some b ∧ b.id = a.id ∧ b.origin = portOrigin p ∧ b.state = .pending ∧ b.sIn = a.sIn ∧
          b.frames = a.frames ∧ b.windows = a.windows ∧ b.total = none ∧ b.framesOnAir = 0 ∧ b.replaced = 0 ∧
          b.cause = none ∧ b.termSeq = none ∧ b.earlyMark = false ∧ b.underrunMark = false ∧
          b.entries = a.segments.map (fun g => ⟨g, .querying, none, 0, 0, none⟩)) ∧
        (∀ q, q ≠ r → q ∉ cs → recOf t q = recOf s q) ∧
        (∀ q, q ∈ cs → ∃ b d, recOf s q = some b ∧ recOf t q = some d ∧ d.id = b.id ∧ d.state = .abandoned ∧
          d.cause = some .cancelled ∧ d.termSeq = timelineSeq s) ∧
        t.link.created.getLast? = some r ∧
        (∀ port, (portOf t.alerts.ports port).marks.get srcCreated = true) ∧
        (cs = [] → t.breaks.terminalOrder = s.breaks.terminalOrder.filter (· != r) ∧ t.memory = s.memory ∧
          t.alerts = (raise srcCreated s).alerts ∧
          t.link = { s.link with created := s.link.created.filter (· != r) ++ [r] }))) ∧
  ∀ (s : State) (c : Cue), c.kind = 1 → c.zoneMask.getLsbD s.profile.zone = true →
    (∀ r b, recOf s r = some b → b.id ≠ c.id) →
    let t := takeCue s c
    let meets (b : BreakRec) : Prop := b.state ≠ .done ∧ b.state ≠ .abandoned ∧ b.windows &&& c.windows ≠ 0 ∧
      rangesMeet b.sIn b.frames.toNat c.sIn c.frames.toNat = true
    let dropped (cues : CueCounters) : Prop :=
      t = { s with breaks := { s.breaks with cues := cues }, monitors := t.monitors, alerts := t.alerts } ∧
        eventCounted mon14 s t ∧ othersKept [mon14] s t ∧ raisedOnly [srcFault, srcWarning] s t
    let late : Prop := ∃ x, timelineSeq s = some x ∧ follows c.sIn (x + 1) = false
    let clashes : Prop := ∃ r b, recOf s r = some b ∧ meets b
    (late → t = { s with
      breaks := { s.breaks with cues := { s.breaks.cues with tooLate := satInc s.breaks.cues.tooLate } } }) ∧
    (¬ late → clashes → dropped { s.breaks.cues with conflicts := satInc s.breaks.cues.conflicts }) ∧
    (¬ late → ¬ clashes → (∀ r, recOf s r ≠ none) → s.breaks.terminalOrder = [] →
      dropped { s.breaks.cues with tableFull := satInc s.breaks.cues.tableFull }) ∧
    (∀ r, ¬ late → ¬ clashes → (recOf s r = none ∧ ∀ q, q < r → recOf s q ≠ none) ∨
        ((∀ q, recOf s q ≠ none) ∧ s.breaks.terminalOrder.head? = some r) →
      t = { s with
        breaks := { s.breaks with
          records := s.breaks.records.set r (some (newBreak c.id .feed c.sIn c.frames c.windows c.segments))
          terminalOrder := s.breaks.terminalOrder.filter (· != r) }
        link := { s.link with created := s.link.created.filter (· != r) ++ [r] }
        alerts := (raise srcCreated s).alerts })

/-- Amends. Amend Break from the director on a Pending or Armed break: its values are replaced, an entry whose position and
segment id stand is kept and any other is Querying; with every entry Ready it is Armed, or Fetching once its fetching
point has passed. An Announce cue for the zone whose break id a record holds: a repeat when all four values are equal; an
amend of a Pending record of the feed, with every entry Querying, unless it is too late or in conflict (one event of M14);
a mismatch otherwise. -/
def Obligations.AmendBreakReplacesValues : Prop :=
  (∀ (s : State) (p : Port) (a : BreakArgs), s.direction.director = some p → breakArgsValid a = true →
    (findBreak s a.id = none → exec (.amendBreak p (amendBytes a)) s =
      .next { s with ports := answered p 0x10 .noSuchBreak [] s.ports }) ∧
    ∀ r b, findBreak s a.id = some r → recOf s r = some b →
      (b.state ≠ .pending → b.state ≠ .armed → exec (.amendBreak p (amendBytes a)) s =
        .next { s with ports := answered p 0x10 .wrongState [] s.ports }) ∧
      (b.state = .pending ∨ b.state = .armed → tooLate s a.sIn = true → exec (.amendBreak p (amendBytes a)) s =
        .next { s with ports := answered p 0x10 .tooLate [] s.ports }) ∧
      (b.state = .pending ∨ b.state = .armed → tooLate s a.sIn = false →
        conflicting s (some r) a.windows a.sIn a.frames ≠ [] → exec (.amendBreak p (amendBytes a)) s =
          .next { s with ports := answered p 0x10 .conflict [] s.ports }) ∧
      (b.state = .pending ∨ b.state = .armed → tooLate s a.sIn = false →
        conflicting s (some r) a.windows a.sIn a.frames = [] →
        ∃ t d, exec (.amendBreak p (amendBytes a)) s = .next t ∧
          t = { s with breaks := t.breaks, alerts := t.alerts, ports := answered p 0x10 .done [] s.ports } ∧
          t.breaks = { s.breaks with records := t.breaks.records } ∧ (∀ q, q ≠ r → recOf t q = recOf s q) ∧
          recOf t r = some d ∧
          d = { b with origin := portOrigin p, sIn := a.sIn, frames := a.frames, windows := a.windows
                       entries := d.entries, state := d.state, total := d.total } ∧
          d.entries.length = a.segments.length ∧
          (∀ (k : Nat) (g : BitVec 32), a.segments[k]? = some g →
            d.entries[k]? = some ((b.entries[k]?.filter fun e => e.segment == g).getD (newEntry g))) ∧
          ((∃ e, e ∈ d.entries ∧ e.state ≠ .ready) → d.state = .pending ∧ d.total = none) ∧
          ((∀ e, e ∈ d.entries → e.state = .ready) → d.total = some ((d.entries.map fun e => e.count.getD 0).sum) ∧
            d.state = (if (timelineSeq s).any (fun x => atOrAfter x (a.sIn - BitVec.ofNat 16 s.profile.prefetch))
              then .fetching else .armed)) ∧
          t.alerts = (if d.state = b.state then s.alerts else (raise srcBreak s).alerts))) ∧
  ∀ (s : State) (c : Cue) (r : Fin 16) (b : BreakRec), c.kind = 1 → c.zoneMask.getLsbD s.profile.zone = true →
    findBreak s c.id = some r → recOf s r = some b →
    let t := takeCue s c
    let counted (cues : CueCounters) : Prop := t = { s with breaks := { s.breaks with cues := cues } }
    let same : Prop := b.sIn = c.sIn ∧ b.frames = c.frames ∧ b.windows = c.windows ∧
      b.entries.map (·.segment) = c.segments
    let amends : Prop := b.origin = .feed ∧ b.state = .pending
    let late : Prop := ∃ x, timelineSeq s = some x ∧ follows c.sIn (x + 1) = false
    let clashes : Prop := ∃ q d, q ≠ r ∧ recOf s q = some d ∧ d.state ≠ .done ∧ d.state ≠ .abandoned ∧
      d.windows &&& c.windows ≠ 0 ∧ rangesMeet d.sIn d.frames.toNat c.sIn c.frames.toNat = true
    (same → counted { s.breaks.cues with repeats := satInc s.breaks.cues.repeats }) ∧
    (¬ same → ¬ amends → counted { s.breaks.cues with mismatches := satInc s.breaks.cues.mismatches }) ∧
    (¬ same → amends → late → counted { s.breaks.cues with tooLate := satInc s.breaks.cues.tooLate }) ∧
    (¬ same → amends → ¬ late → clashes →
      t = { s with
        breaks := { s.breaks with cues := { s.breaks.cues with conflicts := satInc s.breaks.cues.conflicts } }
        monitors := t.monitors, alerts := t.alerts } ∧
        eventCounted mon14 s t ∧ othersKept [mon14] s t ∧ raisedOnly [srcFault, srcWarning] s t) ∧
    (¬ same → amends → ¬ late → ¬ clashes →
      t = { s with breaks := { s.breaks with
        cues := { s.breaks.cues with amends := satInc s.breaks.cues.amends }
        records := s.breaks.records.set r (some { b with
          sIn := c.sIn, frames := c.frames, windows := c.windows, total := none
          entries := c.segments.map fun g => ⟨g, .querying, none, 0, 0, none⟩ }) } })

/-- Cancels and returns. Cancel Break from the director: a record on air gets the early-return mark; a record in Pending,
Armed or Fetching is Abandoned with cause Cancelled, its queue freed, and its requests freed or marked aborted with their
Abort waiting. A cue that is not for the zone is counted alone; a Cancel cue acts on a record as the command does; a
Return cue marks a record on air; either is counted where no record holds its break id, and where it is ignored. -/
def Obligations.CancelBreakAbandons : Prop :=
  (∀ (s : State) (p : Port) (id : BitVec 16), s.direction.director = some p → id ≠ 0 →
    (findBreak s id = none → exec (.cancelBreak p (idBytes id)) s =
      .next { s with ports := answered p 0x11 .noSuchBreak [] s.ports }) ∧
    ∀ r b, findBreak s id = some r → recOf s r = some b →
      (b.state.live = false → exec (.cancelBreak p (idBytes id)) s =
        .next { s with ports := answered p 0x11 .wrongState [] s.ports }) ∧
      (b.state = .onAir → exec (.cancelBreak p (idBytes id)) s = .next { s with
        breaks := { s.breaks with records := s.breaks.records.set r (some { b with earlyMark := true }) }
        ports := answered p 0x11 .done [] s.ports }) ∧
      (b.state = .pending ∨ b.state = .armed ∨ b.state = .fetching →
        ∃ t, exec (.cancelBreak p (idBytes id)) s = .next t ∧
          t = { s with breaks := t.breaks, link := t.link, memory := t.memory, alerts := t.alerts
                       ports := answered p 0x11 .done [] s.ports } ∧
          (∀ q, q ≠ r → recOf t q = recOf s q ∧ queueOf t q = queueOf s q) ∧ queueOf t r = [] ∧
          recOf t r = some { b with state := .abandoned, cause := some .cancelled, termSeq := timelineSeq s
                                    entries := b.entries.map fun e => { e with timer := none } } ∧
          t.breaks.terminalOrder = s.breaks.terminalOrder ++ [r] ∧ t.breaks.cues = s.breaks.cues ∧
          t.link = { s.link with slots := t.link.slots, created := s.link.created.filter (· != r) } ∧
          (∀ k q, slotOf s k = some q →
            (q.record ≠ r ∨ q.aborted = true → slotOf t k = some q) ∧
            (q.record = r → q.aborted = false → q.send = .waiting → slotOf t k = none) ∧
            (q.record = r → q.aborted = false → q.send ≠ .waiting →
              slotOf t k = some { q with aborted := true, abortWaiting := true } ∧
              t.memory.detached.get k = q.kind.count)) ∧
          t.alerts = (raise srcAbandoned (raise srcBreak s)).alerts)) ∧
  ∀ (s : State) (c : Cue),
    let t := takeCue s c
    let counted (cues : CueCounters) : Prop := t = { s with breaks := { s.breaks with cues := cues } }
    (c.zoneMask.getLsbD s.profile.zone = false →
      counted { s.breaks.cues with notForZone := satInc s.breaks.cues.notForZone }) ∧
    (c.zoneMask.getLsbD s.profile.zone = true → c.kind = 2 ∨ c.kind = 3 →
      ((∀ r b, recOf s r = some b → b.id ≠ c.id) →
        counted { s.breaks.cues with noSuchBreak := satInc s.breaks.cues.noSuchBreak }) ∧
      ∀ r b, findBreak s c.id = some r → recOf s r = some b →
        (b.state = .onAir → t = { s with breaks := { s.breaks with
          records := s.breaks.records.set r (some { b with earlyMark := true }) } }) ∧
        (b.state = .done ∨ b.state = .abandoned ∨ (c.kind = 3 ∧ b.state ≠ .onAir) →
          counted { s.breaks.cues with ignored := satInc s.breaks.cues.ignored }) ∧
        (c.kind = 2 → b.state = .pending ∨ b.state = .armed ∨ b.state = .fetching →
          t = { s with breaks := t.breaks, link := t.link, memory := t.memory, alerts := t.alerts } ∧
          ∀ p v, s.direction.director = some p → c.id ≠ 0 → exec (.cancelBreak p (idBytes c.id)) s = .next v →
            t.breaks = v.breaks ∧ t.link = v.link ∧ t.memory = v.memory ∧ t.alerts = v.alerts))

/-- R105: Retire Break from the director. -/
def Obligations.RetireBreakFreesRecord : Prop :=
  ∀ (s : State) (p : Port) (args : List Byte), s.direction.director = some p →
    (args.length ≠ 2 ∨ args = [0, 0] →
      exec (.retireBreak p args) s = .next { s with ports := answered p 0x12 .badArgument [] s.ports }) ∧
    ∀ id : BitVec 16, id ≠ 0 → args = idBytes id →
      ((∀ r b, recOf s r = some b → b.id ≠ id) →
        exec (.retireBreak p args) s = .next { s with ports := answered p 0x12 .noSuchBreak [] s.ports }) ∧
      ∀ r b, BreaksInv s → recOf s r = some b → b.id = id →
        (b.state ≠ .done → b.state ≠ .abandoned →
          exec (.retireBreak p args) s = .next { s with ports := answered p 0x12 .wrongState [] s.ports }) ∧
        (b.state = .done ∨ b.state = .abandoned →
          ∃ t, exec (.retireBreak p args) s = .next t ∧
            t = { s with breaks := t.breaks, ports := answered p 0x12 .done [] s.ports } ∧ recOf t r = none ∧
            (∀ q, q ≠ r → recOf t q = recOf s q) ∧ t.breaks.cues = s.breaks.cues ∧
            t.breaks.terminalOrder = s.breaks.terminalOrder.filter (· != r) ∧ findBreak t id = none)

/-- Re-query timers: at a boundary that carries a sequence each present one of a record that goes on goes down by one, and
at a gap boundary none; one that has reached 0 becomes absent and returns its entry of a Pending record to Querying. -/
def Obligations.RequeryTimersReturnEntries : Prop :=
  (∀ (s : State) (ready : Bool) (tl : Timeline), s.store.timeline = some tl →
    0 ≤ timeDiff s.tb.localTime tl.nextBoundary → s.settings.apply = .none →
    ∃ t, exec (.boundary ready) s = .next t ∧
      ((fixCarry s.profile.frameInterval tl).1 = none → t.breaks = s.breaks) ∧
      ∀ q r d, (fixCarry s.profile.frameInterval tl).1 = some q → recOf t r = some d → d.state.live = true →
        ∃ b, recOf s r = some b ∧ b.id = d.id ∧
          d.entries = b.entries.map fun e => { e with timer := e.timer.map (· - 1) }) ∧
  (∀ (s : State) (r : Fin 16) (e : Fin 8) (b : BreakRec) (x : Entry), recOf s r = some b →
    b.entries[e.val]? = some x → x.timer = some 0 →
    ∃ t, exec (.requeryTimerExpiry r e) s = .next t ∧ t = { s with breaks := t.breaks } ∧
      t.breaks = { s.breaks with records := t.breaks.records } ∧ (∀ q, q ≠ r → recOf t q = recOf s q) ∧
      ∃ y, recOf t r = some { b with entries := b.entries.set e.val y } ∧ y = { x with state := y.state, timer := none } ∧
        (b.state = .pending → x.state = .unknown ∨ x.state = .withdrawn → y.state = .querying) ∧
        (b.state ≠ .pending → y.state = x.state))

/-- The boundary rule at a sequence q. A record OnAir that a mark or a stopped output ends is Done with cause
UnderrunReturn or Returned, one whose range has run out Done with cause Completed, its unread packets added to its surplus;
one that goes on has q in its range and counts a frame on air. A record whose first sequence is reached goes on air when q
lies in its range, the output is not stopped and its start fill is met, and is Abandoned otherwise; before that it stays,
or is Fetching from its fetching point on. A record that ends leaves the creation order, its queue is freed, its requests
are freed or marked aborted with their Abort waiting, and it joins the terminal order by the steps of the rule; a terminal
record as old as the retention is freed. -/
def Obligations.BoundaryRuleMovesRecords : Prop :=
  ∀ (s : State) (q : Seq) (stopped : Bool), BreaksInv s →
    (∀ r b, recOf s r = some b → b.state = .onAir → atOrAfter q b.sIn = true) →
    let t := boundaryRule q stopped s
    let ends := endsAt s q stopped
    let freed (r : Fin 16) : Bool := (recOf s r).isSome && (recOf t r).isNone
    t = { s with breaks := t.breaks, link := t.link, memory := t.memory, monitors := t.monitors, alerts := t.alerts } ∧
    t.breaks.cues = s.breaks.cues ∧ othersKept [mon13] s t ∧
    raisedOnly [srcBreak, srcAbandoned, srcFault, srcWarning] s t ∧
    (∀ r d, recOf t r = some d →
      (d.state = .onAir → stopped = false ∧ inRange q d.sIn d.frames.toNat = true ∧ d.earlyMark = false ∧
        d.underrunMark = false) ∧
      (d.state = .pending ∨ d.state = .armed ∨ d.state = .fetching → atOrAfter q d.sIn = false) ∧
      (d.state = .armed → atOrAfter q (d.sIn - BitVec.ofNat 16 s.profile.prefetch) = false) ∧
      (d.state = .done ∨ d.state = .abandoned →
        ∃ x, d.termSeq = some x ∧ (q - x).toNat < s.profile.retention)) ∧
    (∀ r, recOf s r = none → recOf t r = none) ∧
    (∀ r b, recOf s r = some b →
      let becomes (d : BreakRec) : Prop := recOf t r = some d
      let ended (d : BreakRec) : Prop := recOf t r = if s.profile.retention = 0 then none else some d
      (endsByMark stopped b = true → ended (endedAt q .done
        (if b.underrunMark then .underrunReturn else .returned) (queueUnread (queueOf s r)) b)) ∧
      (endsByRange q stopped b = true → ended (endedAt q .done .completed (queueUnread (queueOf s r)) b)) ∧
      (b.state = .onAir → endsByMark stopped b = false → endsByRange q stopped b = false →
        becomes { b with framesOnAir := b.framesOnAir + 1 }) ∧
      (startReached q b = true →
        (startsOnAir s q stopped r b = true → becomes { b with state := .onAir, framesOnAir := b.framesOnAir + 1 }) ∧
        (startsOnAir s q stopped r b = false → ended (endedAt q .abandoned
          (if inRange q b.sIn b.frames.toNat && !stopped then .notReady else .notOnAir) 0 b))) ∧
      (b.state = .pending ∨ b.state = .fetching → startReached q b = false → becomes b) ∧
      (b.state = .armed → startReached q b = false → becomes { b with
        state := if atOrAfter q (b.sIn - BitVec.ofNat 16 s.profile.prefetch) then .fetching else .armed }) ∧
      (b.state = .done ∨ b.state = .abandoned →
        let x := b.termSeq.getD q
        recOf t r = if s.profile.retention ≤ (q - x).toNat then none else some { b with termSeq := some x })) ∧
    t.breaks.terminalOrder = (s.breaks.terminalOrder ++ recordsThat s (fun _ b => endsByMark stopped b) ++
      recordsThat s (fun _ b => endsByRange q stopped b) ++
      recordsThat s (startFails s q stopped)).filter (fun r => !freed r) ∧
    (∀ r, queueOf t r = if ends r then [] else queueOf s r) ∧
    t.link = { s.link with slots := t.link.slots, created := s.link.created.filter fun r => !ends r } ∧
    (∀ k, slotOf s k = none → slotOf t k = none ∧ t.memory.detached.get k = s.memory.detached.get k) ∧
    (∀ k p, slotOf s k = some p →
      (p.aborted = true ∨ ends p.record = false →
        slotOf t k = some p ∧ t.memory.detached.get k = s.memory.detached.get k) ∧
      (p.aborted = false → ends p.record = true → p.send = .waiting →
        slotOf t k = none ∧ t.memory.detached.get k = s.memory.detached.get k) ∧
      (p.aborted = false → ends p.record = true → p.send ≠ .waiting →
        slotOf t k = some { p with aborted := true, abortWaiting := true } ∧
        t.memory.detached.get k = p.kind.count)) ∧
    monRec t mon13 = monRec ((evalEvent mon13)^[(recordsThat s fun r b => startFails s q stopped r b &&
      inRange q b.sIn b.frames.toNat && !stopped).length] s) mon13 ∧
    ∀ port,
      ((∃ r, ends r = true) → (portOf t.alerts.ports port).marks.get srcBreak = true) ∧
      ((∃ r b, recOf s r = some b ∧ startFails s q stopped r b = true) →
        (portOf t.alerts.ports port).marks.get srcAbandoned = true)

/-! ### Advert Link and advert memory (07) -/

/-- On an idle line the link sends a waiting Abort first, then a waiting reissue, each from the lower-numbered slot, then a
new request for what the arbiter chose: a Query, or a Fetch whose count is reserved at the tail of the record's queue and
never exceeds the free places. The arbiter prefers a Fetch for a record on air, then a Query, in the creation order and by
lowest position, then a Fetch for a record in Fetching; among Fetches the lowest order value, then the lowest record
number (that an aborted request holds nothing back is log 20). When the last byte of a request has left, the request is sent with its deadline the reply
timeout ahead, and the line is idle. That an Abort counts when its sending starts is log 25, the event of its own log 6. -/
def Obligations.MessagesLeaveByPriority : Prop :=
  (∀ s : State,
    (s.link.line ≠ none → exec .messageSend s = .next s) ∧
    (s.link.line = none → ∀ k q, slotOf s k = some q → q.abortWaiting = true →
      (∀ j x, j < k → slotOf s j = some x → x.abortWaiting = false) →
      exec .messageSend s = .next { s with link := { s.link with
        slots := s.link.slots.set k (some { q with abortWaiting := false }), aborts := satInc s.link.aborts
        line := some ⟨abortMessage k, none⟩ } }) ∧
    (s.link.line = none → (∀ j x, slotOf s j = some x → x.abortWaiting = false) →
      (∀ k q, slotOf s k = some q → q.send = .waiting → q.aborted = false →
        (∀ j x, j < k → slotOf s j = some x → x.send ≠ .waiting ∨ x.aborted = true) →
        exec .messageSend s = .next { s with link := { s.link with
          slots := s.link.slots.set k (some { q with send := .beingSent })
          line := some ⟨requestMessage k q, some k⟩ } }) ∧
      ((∀ j x, slotOf s j = some x → x.send ≠ .waiting ∨ x.aborted = true) →
        (chooseRequest s = none ∨ (∀ k, slotOf s k ≠ none) → exec .messageSend s = .next s) ∧
        ∀ k c b x, slotOf s k = none → (∀ j, j < k → slotOf s j ≠ none) → chooseRequest s = some c →
          recOf s c.record = some b → entryOf b c.entry = some x →
          ∃ t q, exec .messageSend s = .next t ∧
            t = { s with link := t.link, breaks := t.breaks, memory := t.memory } ∧
            q = ⟨c.kind, c.record, b.id, c.entry, x.segment, .beingSent, none, false, false⟩ ∧
            t.link = { s.link with slots := s.link.slots.set k (some q), line := some ⟨requestMessage k q, some k⟩
                                   queries := t.link.queries, fetches := t.link.fetches } ∧
            recOf t c.record = some { b with entries := b.entries.set c.entry.val { x with attempts := 0 } } ∧
            (∀ r, r ≠ c.record → recOf t r = recOf s r ∧ queueOf t r = queueOf s r) ∧
            (c.kind = .query → t.link.queries = satInc s.link.queries ∧ t.link.fetches = s.link.fetches ∧
              t.memory = s.memory ∧ b.state = .pending ∧ x.state = .querying) ∧
            (∀ o n, c.kind = .fetch o n → t.link.fetches = satInc s.link.fetches ∧ t.link.queries = s.link.queries ∧
              queueOf t c.record = queueOf s c.record ++ [.reserved n] ∧ 1 ≤ n ∧ n ≤ s.profile.fetchSize ∧
              n ≤ freePlaces s.memory ∧ queuePlaces (queueOf t c.record) ≤ s.profile.highMark ∧ o = x.nextOffset ∧
              o + n ≤ x.count.getD 0 ∧ (b.state = .onAir ∨ b.state = .fetching))))) ∧
  (∀ (s : State) (m : Sending) (k : Fin 2) (q : Request), s.link.line = some m → m.slot = some k →
    slotOf s k = some q → q.send = .beingSent →
    exec .messageSent s = .next { s with link := { s.link with
      line := none
      slots := s.link.slots.set k (some { q with
        send := .sent, deadline := some (addTicks s.tb.localTime (s.profile.replyTimeout * 10000 : Nat)) }) } }) ∧
  (∀ (s : State) (m : Sending), s.link.line = some m → m.slot = none →
    exec .messageSent s = .next { s with link := { s.link with line := none } }) ∧
  ∀ s : State,
    (∀ r e o n, fetchable s r .onAir e o n → fetchedFirst s r .onAir → chooseRequest s = some ⟨r, e, .fetch o n⟩) ∧
    (noFetch s .onAir →
      (∀ before r after e, s.link.created = before ++ r :: after → queryable s r e → (∀ d, d < e → ¬ queryable s r d) →
        (∀ x, x ∈ before → ∀ d, ¬ queryable s x d) → chooseRequest s = some ⟨r, e, .query⟩) ∧
      ((∀ r, r ∈ s.link.created → ∀ e, ¬ queryable s r e) →
        (∀ r e o n, fetchable s r .fetching e o n → fetchedFirst s r .fetching →
          chooseRequest s = some ⟨r, e, .fetch o n⟩) ∧
        (noFetch s .fetching → chooseRequest s = none)))

/-- A Ready or an Unknown that answers a Query: its slot becomes Free, and a Querying entry of a live record becomes Ready
with the packet count, or Unknown with its re-query timer set; a Pending record whose entries are then all Ready is
Armed, or Fetching past its fetching point. One that meets its aborted Query frees the slot alone, and so does one whose
entry an amend has given another segment id or taken away; an entry that holds the id and is no longer Querying has its
attempt count set to 0 alone. One that answers no Query is unsolicited (a tag above 1 among them, log 24).
The bytes kept of the line are the message's first ones (log 5). -/
def Obligations.QueryRepliesSetEntries : Prop :=
  (∀ (s : State) (k : Fin 2) (q : Request) (b : BreakRec) (x : Entry) (count : BitVec 32), slotOf s k = some q →
    q.kind = .query → q.aborted = false → recOf s q.record = some b → b.entries[q.entry.val]? = some x →
    b.state.live = true → x.state = .querying → x.segment = q.segment → 1 ≤ count.toNat → count.toNat ≤ 16777215 →
    let slots := s.link.slots.set k none
    let tag : Byte := BitVec.ofNat 8 k.val
    (completes s (readyMessage tag q.segment count) = true → ∃ t d, exec (.ready tag q.segment count) s = .next t ∧
      t = { s with breaks := t.breaks, alerts := t.alerts, link := { s.link with slots := slots }
                   lines := heard s.lines } ∧
      t.breaks = { s.breaks with records := s.breaks.records.set q.record (some d) } ∧
      d.entries = b.entries.set q.entry.val { x with state := .ready, count := some count.toNat, attempts := 0 } ∧
      d = { b with entries := d.entries, state := d.state, total := d.total } ∧
      (b.state ≠ .pending ∨ (∃ e, e ∈ d.entries ∧ e.state ≠ .ready) →
        d.state = b.state ∧ d.total = b.total ∧ t.alerts = s.alerts) ∧
      (b.state = .pending → (∀ e, e ∈ d.entries → e.state = .ready) →
        d.total = some ((d.entries.map fun e => e.count.getD 0).sum) ∧ t.alerts = (raise srcBreak s).alerts ∧
        d.state = (if (timelineSeq s).any (fun y => atOrAfter y (b.sIn - BitVec.ofNat 16 s.profile.prefetch))
          then .fetching else .armed))) ∧
    (completes s (unknownMessage tag q.segment) = true → exec (.unknown tag q.segment) s = .next { s with
      link := { s.link with slots := slots }, lines := heard s.lines
      breaks := { s.breaks with records := s.breaks.records.set q.record (some { b with
        entries := b.entries.set q.entry.val
          { x with state := .unknown, timer := some s.profile.requery, attempts := 0 } }) } })) ∧
  ∀ (s : State) (tag : Byte) (segment count : BitVec 32) (c : Instr) (message : List Byte),
    (c = .ready tag segment count ∧ message = readyMessage tag segment count ∧ readyFits count = true) ∨
      (c = .unknown tag segment ∧ message = unknownMessage tag segment) → completes s message = true →
    (∀ k q, slotOf s k = some q → tag = BitVec.ofNat 8 k.val → q.kind = .query → q.segment = segment →
      q.aborted = true → exec c s = .next { s with
        link := { s.link with slots := s.link.slots.set k none }, lines := heard s.lines }) ∧
    (∀ k q, slotOf s k = some q → tag = BitVec.ofNat 8 k.val → q.kind = .query → q.segment = segment →
      q.aborted = false →
      ((∀ b x, recOf s q.record = some b → b.entries[q.entry.val]? = some x → x.segment ≠ segment) →
        exec c s = .next { s with
          link := { s.link with slots := s.link.slots.set k none }, lines := heard s.lines }) ∧
      ∀ b x, recOf s q.record = some b → b.entries[q.entry.val]? = some x → x.segment = segment →
        b.state.live = false ∨ x.state ≠ .querying → exec c s = .next { s with
          link := { s.link with slots := s.link.slots.set k none }, lines := heard s.lines
          breaks := { s.breaks with records := s.breaks.records.set q.record (some { b with
            entries := b.entries.set q.entry.val { x with attempts := 0 } }) } }) ∧
    ((∀ j y, slotOf s j = some y → tag = BitVec.ofNat 8 j.val → y.kind ≠ .query ∨ y.segment ≠ segment) →
      exec c s = .next { s with
        link := { s.link with unsolicited := satInc s.link.unsolicited }, lines := heard s.lines })

/-- A Burst that answers a Fetch with 1 to the requested count of packets fills its reservation in the order received, a
short one being counted, and moves the entry's next fetch offset; one that meets its aborted request frees the slot and
its reservation; one that answers nothing, another offset, a Query or a Free slot among them, is unsolicited, a tag above
1 among them (log 24). The bytes kept of the line are the message's first ones (log 5). -/
def Obligations.BurstFillsReservation : Prop :=
  (∀ (s : State) (k : Fin 2) (q : Request) (o n : Nat) (offset : BitVec 32) (packets : List ServicePacket),
    slotOf s k = some q → q.kind = .fetch o n → offset.toNat = o → 1 ≤ packets.length → packets.length ≤ n →
    n ≤ 65535 → (∀ p, p ∈ packets → p.sync = 0x5A) →
    completes s (burstMessage (BitVec.ofNat 8 k.val) q.breakId q.segment offset packets) = true →
    let c := Instr.burst (BitVec.ofNat 8 k.val) q.breakId q.segment offset packets
    (∀ (before : List Extent) (b : BreakRec) (x : Entry), q.aborted = false →
      queueOf s q.record = before ++ [.reserved n] → queueReserved before = 0 →
      (∀ e, e ∈ before → extentPlaces e ≠ 0) → recOf s q.record = some b → b.entries[q.entry.val]? = some x →
      ∃ t, exec c s = .next t ∧
        t = { s with link := t.link, memory := t.memory, breaks := t.breaks, lines := heard s.lines } ∧
        queueOf t q.record = before ++ [.filled packets 0] ∧ t.memory.detached = s.memory.detached ∧
        (∀ r, r ≠ q.record → queueOf t r = queueOf s r) ∧
        t.breaks = { s.breaks with records := s.breaks.records.set q.record (some { b with
          entries := b.entries.set q.entry.val { x with nextOffset := x.nextOffset + packets.length, attempts := 0 } }) } ∧
        t.link = { s.link with slots := s.link.slots.set k none
                               shorts := if packets.length < n then satInc s.link.shorts else s.link.shorts }) ∧
    (q.aborted = true → exec c s = .next { s with
      link := { s.link with slots := s.link.slots.set k none }
      memory := { s.memory with detached := s.memory.detached.set k 0 }, lines := heard s.lines })) ∧
  ∀ (s : State) (tag : Byte) (id : BitVec 16) (segment offset : BitVec 32) (packets : List ServicePacket),
    packets.length ≤ 65535 → (∀ p, p ∈ packets → p.sync = 0x5A) →
    completes s (burstMessage tag id segment offset packets) = true →
    (∀ j q, slotOf s j = some q → tag = BitVec.ofNat 8 j.val →
      q.kind = .query ∨ q.breakId ≠ id ∨ q.segment ≠ segment ∨ ∃ o n, q.kind = .fetch o n ∧ o ≠ offset.toNat) →
    exec (.burst tag id segment offset packets) s = .next { s with
      link := { s.link with unsolicited := satInc s.link.unsolicited }, lines := heard s.lines }

/-- A Withdraw changes no slot. In every live record that holds the segment the entries with it become Withdrawn; an
Armed record returns to Pending with its total absent; Fetching and OnAir records stay, a link failure (M12). The count
that stands and the timers that restart are logs 22 and 23, the bytes kept of the line log 5. -/
def Obligations.WithdrawReachesLiveRecords : Prop :=
  ∀ (s : State) (segment : BitVec 32), completes s (withdrawMessage segment) = true →
    ∃ t, exec (.withdraw segment) s = .next t ∧
      t = { s with breaks := t.breaks, monitors := t.monitors, alerts := t.alerts, lines := heard s.lines
                   link := { s.link with withdraws := satInc s.link.withdraws } } ∧
      t.breaks = { s.breaks with records := t.breaks.records } ∧
      (∀ r, recOf s r = none → recOf t r = none) ∧
      (∀ r b, recOf s r = some b →
        (b.state.live = false ∨ (∀ e, e ∈ b.entries → e.segment ≠ segment) → recOf t r = some b) ∧
        (b.state.live = true → (∃ e, e ∈ b.entries ∧ e.segment = segment) →
          ∃ d, recOf t r = some d ∧
            d = { b with entries := d.entries, state := d.state, total := d.total } ∧
            d.entries.length = b.entries.length ∧
            (∀ (i : Nat) (e : Entry), b.entries[i]? = some e →
              (e.segment ≠ segment → d.entries[i]? = some e) ∧
              (e.segment = segment → d.entries[i]? = some { e with
                state := .withdrawn
                timer := if b.state = .pending ∨ b.state = .armed then some s.profile.requery else none })) ∧
            (b.state = .armed → d.state = .pending ∧ d.total = none) ∧
            (b.state ≠ .armed → d.state = b.state ∧ d.total = b.total))) ∧
      othersKept [mon12] s t ∧ raisedOnly [srcBreak, srcLink, srcFault, srcWarning] s t ∧
      ((∀ r b, recOf s r = some b → b.state = .fetching ∨ b.state = .onAir →
        ∀ e, e ∈ b.entries → e.segment ≠ segment) → t.monitors = s.monitors) ∧
      (∀ r b, recOf s r = some b → b.state = .fetching ∨ b.state = .onAir →
        (∃ e, e ∈ b.entries ∧ e.segment = segment) →
        (∀ port, (portOf t.alerts.ports port).marks.get srcLink = true) ∧
        ((∀ r' b', r' ≠ r → recOf s r' = some b' → b'.state ≠ .fetching ∧ b'.state ≠ .onAir) → eventCounted mon12 s t))

/-- A failed attempt, by a reply timeout, a corrupt message, or a Burst of no packets or of more than were asked for: with
retries left the request waits to be reissued; beyond them a Query's entry becomes Unknown, and a Fetch's entry Failed with
its reservation released and a link failure; a Fetch whose record's fetching a Withdraw has stopped is not reissued; the
slot of an aborted request becomes Free. That a failed attempt of a Query counts on the entry at its position, one that an
amend has given another segment id too, and that a Query whose entry an amend has taken away has no retries left, is the
model's reading, log 21. A corrupt message that names no Awaiting slot is unsolicited. The bytes kept of the line are
log 5. -/
def Obligations.FailedAttemptsRetryOrFail : Prop :=
  (∀ (s u : State) (k : Fin 2) (q : Request) (c : Instr), slotOf s k = some q →
    (c = .replyTimeout k ∧ (∃ d, q.deadline = some d ∧ 0 ≤ timeDiff s.tb.localTime d) ∧
      u = { s with link := { s.link with timeouts := satInc s.link.timeouts } }) ∨
    (∃ bytes m, c = .corruptMessage bytes ∧ endsMessage s bytes m ∧ messageCorrupt m = true ∧
      readableTag m = some k ∧ u = { s with lines := heard s.lines }) ∨
    (∃ o n offset packets, c = .burst (BitVec.ofNat 8 k.val) q.breakId q.segment offset packets ∧ q.kind = .fetch o n ∧
      offset.toNat = o ∧ (packets = [] ∨ n < packets.length) ∧ packets.length ≤ 65535 ∧
      (∀ p, p ∈ packets → p.sync = 0x5A) ∧
      completes s (burstMessage (BitVec.ofNat 8 k.val) q.breakId q.segment offset packets) = true ∧
      u = { s with lines := heard s.lines }) →
    ∃ t, exec c s = .next t ∧
      t = { u with link := t.link, breaks := t.breaks, memory := t.memory, monitors := t.monitors
                   alerts := t.alerts } ∧ t.breaks = { s.breaks with records := t.breaks.records } ∧
      (∀ r, r ≠ q.record → recOf t r = recOf s r ∧ queueOf t r = queueOf s r) ∧
      othersKept [mon12] s t ∧ raisedOnly [srcLink, srcFault, srcWarning] s t ∧
      (q.aborted = true → t.link = { u.link with slots := s.link.slots.set k none } ∧ t.breaks = s.breaks ∧
        t.monitors = s.monitors ∧ t.memory.queues = s.memory.queues ∧
        (q.kind ≠ .query → t.memory.detached.get k = 0)) ∧
      (∀ b x, q.aborted = false → recOf s q.record = some b → b.entries[q.entry.val]? = some x →
        x.attempts < s.profile.retries → q.kind = .query ∨ (∀ e, e ∈ b.entries → e.state ≠ .withdrawn) →
        t.link = { u.link with
          slots := s.link.slots.set k (some { q with send := .waiting, deadline := none })
          retries := s.link.retries + 1, rollover := s.link.rollover || s.link.retries == 65535 } ∧
        recOf t q.record = some { b with entries := b.entries.set q.entry.val { x with attempts := x.attempts + 1 } } ∧
        t.memory = s.memory ∧ t.monitors = s.monitors ∧ t.alerts = s.alerts) ∧
      (∀ b x, q.aborted = false → recOf s q.record = some b → b.entries[q.entry.val]? = some x →
        s.profile.retries ≤ x.attempts ∨ (q.kind ≠ .query ∧ ∃ e, e ∈ b.entries ∧ e.state = .withdrawn) →
        t.link = { u.link with slots := s.link.slots.set k none } ∧
        (q.kind = .query → t.memory = s.memory ∧ t.monitors = s.monitors ∧ t.alerts = s.alerts ∧
          (b.state.live = true → x.state = .querying → x.segment = q.segment → recOf t q.record = some { b with
            entries := b.entries.set q.entry.val
              { x with state := .unknown, timer := some s.profile.requery } }) ∧
          (b.state.live = false ∨ x.state ≠ .querying ∨ x.segment ≠ q.segment → t.breaks = s.breaks)) ∧
        (q.kind ≠ .query → queueOf t q.record = dropReserved (queueOf s q.record) ∧
          ((∃ e, e ∈ b.entries ∧ e.state = .withdrawn) → t.monitors = s.monitors ∧ recOf t q.record = some b) ∧
          ((∀ e, e ∈ b.entries → e.state ≠ .withdrawn) → eventCounted mon12 s t ∧
            (∀ port, (portOf t.alerts.ports port).marks.get srcLink = true) ∧
            (b.state = .fetching ∨ b.state = .onAir → x.state = .ready → recOf t q.record = some { b with
              entries := b.entries.set q.entry.val { x with state := .failed } })))) ∧
      (q.aborted = false → q.kind = .query →
        (∀ b, recOf s q.record = some b → b.entries[q.entry.val]? = none) →
        t.link = { u.link with slots := s.link.slots.set k none } ∧ t.breaks = s.breaks ∧ t.memory = s.memory ∧
        t.monitors = s.monitors ∧ t.alerts = s.alerts)) ∧
  (∀ (s : State) (bytes : List Byte) (m : RawMessage), endsMessage s bytes m → messageCorrupt m = true →
    (∀ k, readableTag m = some k → slotOf s k = none) →
    exec (.corruptMessage bytes) s = .next { s with
      link := { s.link with unsolicited := satInc s.link.unsolicited }, lines := heard s.lines })

/-! ### Splicing and label windows (08) -/

/-- A frame through the Splice Unit: one packet leaves for each position; a packet whose label hits no window leaves
unchanged; one that hits a Drop window and no Splice window leaves as a null packet; no record's content law breaks, and
only in Running are the packets that leave restamped. A replaced slot takes the packet at the head of its record's queue,
with its label translated by the hit window; a null packet as a tail fill once every packet has been emitted; and
otherwise, and always under the record's mark, a null packet as an underrun fill, with one active evaluation of M11 at the
record's first one, which sets the mark when it leaves the flag latched (in a mode other than LATCH too, log 19). A record
with replaced slots and no underrun fill gives an inactive evaluation at the end. -/
def Obligations.SplicedFrameKeepsPositions : Prop :=
  ∀ (s : State) (running : Bool) (packets : List ServicePacket),
    let r := spliceFrame running packets s
    r.1.length = packets.length ∧
    r.2 = { s with breaks := r.2.breaks, memory := r.2.memory, splice := r.2.splice, monitors := r.2.monitors
                   alerts := r.2.alerts } ∧
    othersKept [mon11] s r.2 ∧ raisedOnly [srcFault, srcWarning] s r.2 ∧
    r.2.breaks = { s.breaks with records := r.2.breaks.records } ∧ r.2.memory.detached = s.memory.detached ∧
    (∀ (k : Nat) (p : ServicePacket), packets[k]? = some p →
      ((∀ w, labelHits (windowAt s w) p.label = false) → r.1[k]? = some p) ∧
      ((∃ w, (windowAt s w).kind = .drop ∧ labelHits (windowAt s w) p.label = true) →
        (∀ w, (windowAt s w).kind = .splice → labelHits (windowAt s w) p.label = false) →
        r.1[k]? = some nullPacket)) ∧
    (running = false → r.2.splice.continuity = s.splice.continuity ∧ r.2.splice.restamped = s.splice.restamped) ∧
    (∀ n, (recOf s n = none → recOf r.2 n = none) ∧ ∀ b, recOf s n = some b → ∃ d, recOf r.2 n = some d ∧
      d = { b with replaced := d.replaced, emitted := d.emitted, underruns := d.underruns, tails := d.tails
                   underrunMark := d.underrunMark } ∧
      d.replaced + (b.emitted + b.underruns + b.tails) = b.replaced + (d.emitted + d.underruns + d.tails) ∧
      (b.underrunMark = true → d.underrunMark = true ∧ d.emitted = b.emitted) ∧
      (b.state ≠ .onAir → d = b)) ∧
    let out := splicePackets packets ⟨s, [], []⟩
    (∀ (k : Nat) (p : ServicePacket), packets[k]? = some p →
      out.1[k]? = some (splicePacket p (splicePackets (packets.take k) ⟨s, [], []⟩).2).1) ∧
    r.1 = (if running then (restampPackets out.1 s).1 else out.1) ∧ r.2.breaks = out.2.state.breaks ∧
    r.2.memory = out.2.state.memory ∧
    ((∃ n, n ∈ out.2.touched ∧ n ∉ out.2.under) → conditionTaken mon11 false out.2.state r.2) ∧
    ((∀ n, n ∈ out.2.touched → n ∈ out.2.under) → monRec r.2 mon11 = monRec out.2.state mon11) ∧
    ∀ (p : ServicePacket) (f : Forming) (w : Fin 8) (n : Fin 16) (b : BreakRec), replaces f.state p.label w n →
      recOf f.state n = some b →
      let g := splicePacket p f
      let becomes (d : BreakRec) : Prop :=
        g.2.state.breaks = { f.state.breaks with records := f.state.breaks.records.set n (some d) }
      let served : Prop := g.2.under = f.under ∧ g.2.state.splice = f.state.splice ∧ g.2.state.monitors = f.state.monitors
      let underrun : Prop := g.1 = nullPacket ∧ g.2.state.memory = f.state.memory ∧ n ∈ g.2.under ∧
        (∀ m, m ≠ n → (m ∈ g.2.under ↔ m ∈ f.under)) ∧
        g.2.state.splice = { f.state.splice with underruns := satInc f.state.splice.underruns }
      n ∈ g.2.touched ∧ (∀ m, m ≠ n → (m ∈ g.2.touched ↔ m ∈ f.touched)) ∧
      (b.underrunMark = true → underrun ∧ g.2.state.monitors = f.state.monitors ∧
        becomes { b with replaced := b.replaced + 1, underruns := b.underruns + 1 }) ∧
      (b.underrunMark = false →
        (∀ (filled : List ServicePacket) (pos : Nat) (rest : List Extent) (a : ServicePacket),
          queueOf f.state n = .filled filled pos :: rest → filled[pos]? = some a →
          served ∧ becomes { b with replaced := b.replaced + 1, emitted := b.emitted + 1 } ∧
          queueOf g.2.state n = (if pos + 1 < filled.length then .filled filled (pos + 1) :: rest else rest) ∧
          (∀ m, m ≠ n → queueOf g.2.state m = queueOf f.state m) ∧
          g.1 = { a with label := g.1.label } ∧ leavesAs (windowAt f.state w) a.label g.1.label) ∧
        ((∀ filled pos rest, queueOf f.state n = .filled filled pos :: rest → filled.length ≤ pos) →
          (b.total = some b.emitted → g.1 = nullPacket ∧ served ∧ g.2.state.memory = f.state.memory ∧
            becomes { b with replaced := b.replaced + 1, tails := b.tails + 1 }) ∧
          (b.total ≠ some b.emitted → underrun ∧
            (n ∈ f.under → g.2.state.monitors = f.state.monitors ∧
              becomes { b with replaced := b.replaced + 1, underruns := b.underruns + 1 }) ∧
            (n ∉ f.under → conditionTaken mon11 true f.state g.2.state ∧
              becomes { b with replaced := b.replaced + 1, underruns := b.underruns + 1
                               underrunMark := (monSetting f.state mon11).mode != .off &&
                                 (monRec g.2.state mon11).latched }))))

/-- Restamping: a packet whose label hits no Splice window keeps its continuity count; the counts of each other label go
up by one from packet to packet, on from its entry of the continuity table, or from its own count where that is unset;
the entry ends at the last count. -/
def Obligations.RestampedCountsFollowOn : Prop :=
  ∀ (s : State) (packets : List ServicePacket),
    let r := restampPackets packets s
    r.1.length = packets.length ∧ r.2 = { s with splice := r.2.splice } ∧
    r.2.splice = { s.splice with continuity := r.2.splice.continuity, restamped := r.2.splice.restamped } ∧
    (∀ (k : Nat) (p : ServicePacket), packets[k]? = some p → hitsKind s .splice p.label = false →
      r.1[k]? = some p) ∧
    (∀ (k : Nat) (p : ServicePacket), packets[k]? = some p → hitsKind s .splice p.label = true →
      ∃ c, r.1[k]? = some { p with continuity := c } ∧
        ((∀ (j : Nat) (x : ServicePacket), j < k → packets[j]? = some x → x.label ≠ p.label) →
          c = ((lookupLabel p.label s.splice.continuity).map (· + 1)).getD p.continuity) ∧
        (∀ (j : Nat) (x y : ServicePacket), j < k → packets[j]? = some x → x.label = p.label →
          (∀ (i : Nat) (z : ServicePacket), j < i → i < k → packets[i]? = some z → z.label ≠ p.label) →
          r.1[j]? = some y → c = y.continuity + 1) ∧
        ((∀ (i : Nat) (z : ServicePacket), k < i → packets[i]? = some z → z.label ≠ p.label) →
          lookupLabel p.label r.2.splice.continuity = some c)) ∧
    (∀ label, (∀ p, p ∈ packets → p.label = label → hitsKind s .splice label = false) →
      lookupLabel label r.2.splice.continuity = lookupLabel label s.splice.continuity)

/-- R136: a label hits a window. -/
def Obligations.LabelHitsWindow : Prop :=
  (∀ (w : Window) (l : BitVec 12), labelHits w l = true ↔ w.enable = true ∧ l ≠ 4095 ∧
    ∀ i, i < 12 → w.mask.getLsbD i = true → l.getLsbD i = w.base.getLsbD i) ∧
  (∀ (w : Window) (l : BitVec 12), w.enable = true → l ≠ 4095 →
    (w.mask = 0xFFF → (labelHits w l = true ↔ l = w.base)) ∧
    (w.mask = 0xFF0 → (labelHits w l = true ↔ l.toNat / 16 = w.base.toNat / 16)) ∧
    (w.mask = 0 → labelHits w l = true)) ∧
  (∀ (w : Window) (l : BitVec 12), w.enable = false → labelHits w l = false) ∧
  (∀ w : Window, labelHits w 4095 = false) ∧
  (∀ (s : State) (p : ServicePacket) (f : Forming), p.label = 4095 →
    splicePacket p f = (p, f) ∧ restampPacket p s = (p, s))

/-! ### Monitors (09) -/

/-- A condition monitor becomes active after its persistence of active evaluations in a row and counts one event for the
run; an inactive evaluation ends it. An event-type monitor counts every event and acts at the persistence-th. -/
def Obligations.PersistenceOfEvaluations : Prop :=
  ∀ (s : State) (m : MonNo) (n : Nat), (monSetting s m).mode ≠ .off → (monRec s m).count = 0 →
    (monRec s m).condition = false → 1 ≤ (monSetting s m).persistence →
    (n < (monSetting s m).persistence → monRec ((evalCondition m true)^[n] s) m = { monRec s m with count := n }) ∧
    ((monSetting s m).persistence ≤ n →
      (monRec ((evalCondition m true)^[n] s) m).condition = true ∧
      (monRec ((evalCondition m true)^[n] s) m).count = (monSetting s m).persistence ∧
      (monRec ((evalCondition m true)^[n] s) m).events = satInc (monRec s m).events) ∧
    (monRec (evalCondition m false ((evalCondition m true)^[n] s)) m).condition = false ∧
    (monRec (evalCondition m false ((evalCondition m true)^[n] s)) m).count = 0 ∧
    (monRec ((evalEvent m)^[n] s) m).condition = false ∧
    (monRec ((evalEvent m)^[n] s) m).count = n % (monSetting s m).persistence ∧
    (monRec ((evalEvent m)^[n] s) m).events = satInc^[n] (monRec s m).events ∧
    (n < (monSetting s m).persistence → (monRec ((evalEvent m)^[n] s) m).latched = (monRec s m).latched ∧
      (monRec ((evalEvent m)^[n] s) m).warning = (monRec s m).warning) ∧
    ((monSetting s m).persistence ≤ n →
      ((monSetting s m).mode = .latch → (monRec ((evalEvent m)^[n] s) m).latched = true) ∧
      ((monSetting s m).mode ≠ .latch → (monRec ((evalEvent m)^[n] s) m).warning = true))

/-- Clear Faults from the director: every warning flag is cleared, a latched-fault flag stays only while its condition is
active and is then named in the data, the Fault cause goes when nothing of M4 and M10 holds it, and the first-fault
record is emptied; no alert is raised. -/
def Obligations.ClearFaultsKeepsActiveLatches : Prop :=
  ∀ (s : State) (p : Port), s.direction.director = some p → s.output.causes.fault = faultHolds s →
    ∃ t data, exec (.clearFaults p []) s = .next t ∧
      t = { s with monitors := t.monitors, output := t.output, ports := answered p 0x16 .done data s.ports } ∧
      (∀ m, monRec t m = { monRec s m with
        warning := false, latched := (monRec s m).latched && (monRec s m).condition }) ∧
      t.monitors.first = none ∧ data.length = 3 ∧
      (∀ m, (beNat data).testBit m.val = ((monRec s m).latched && (monRec s m).condition)) ∧
      t.output = { s.output with causes := { s.output.causes with fault := t.output.causes.fault } } ∧
      (t.output.causes.fault = true ↔
        (monRec t mon4).latched = true ∨ (monRec t mon10).latched = true ∨
        ((monSetting s mon4).mode = .frame ∧ (monRec s mon4).condition = true) ∨
        ((monSetting s mon10).mode = .frame ∧ (monRec s mon10).condition = true))

/-! ### Management ports (10) -/

/-- The port's own events: No Operation, a code outside the table, a frame error, and the status byte with its eight
bits; the record of the byte shifted out is the MODEL's own (log 32). -/
def Obligations.PortEventsAnswer : Prop :=
  ∀ (s : State) (p : Port) (args : List Byte) (code : Byte),
    (args = [] → exec (.noOperation p args) s = .next { s with ports := answered p 0x01 .done [] s.ports }) ∧
    (args ≠ [] → exec (.noOperation p args) s = .next { s with ports := answered p 0x01 .badArgument [] s.ports }) ∧
    (code.toNat = 0 ∨ 28 < code.toNat →
      exec (.unknownCommand p code args) s = .next { s with ports := answered p code .badArgument [] s.ports }) ∧
    (isFrameError args = true →
      ∃ t, exec (.frameError p args) s = .next t ∧
        t = { s with ports := t.ports, monitors := t.monitors, alerts := t.alerts } ∧
        portOf t.ports p = { portOf s.ports p with response := ⟨args.headD 0, .frameError, []⟩, frameErr := true } ∧
        portOf t.ports (otherPort p) = portOf s.ports (otherPort p) ∧ eventCounted mon16 s t ∧
        othersKept [mon16] s t ∧ raisedOnly [srcFrameError, srcFault, srcWarning] s t ∧
        (portOf t.alerts.ports p).marks.get srcFrameError = true ∧
        (portOf t.alerts.ports (otherPort p)).marks.get srcFrameError =
          (portOf s.alerts.ports (otherPort p)).marks.get srcFrameError) ∧
    ∃ t byte, exec (.statusByteFormed p) s = .next t ∧ t = { s with ports := t.ports } ∧
      portOf t.ports p = { portOf s.ports p with statusOut := some byte } ∧
      portOf t.ports (otherPort p) = portOf s.ports (otherPort p) ∧
      (byte.getLsbD 7 = true ↔ ∃ m, (monRec s m).latched = true) ∧
      (byte.getLsbD 6 = true ↔ ∃ m, (monRec s m).warning = true) ∧
      (byte.getLsbD 5 = true ↔ s.direction.director = some p) ∧
      (byte.getLsbD 4 = true ↔ s.direction.claim ≠ none ∧
        (s.direction.claim = some p ∨ s.direction.director = some p)) ∧
      (byte.getLsbD 3 = true ↔ ∃ src, deliverable s p src = true) ∧
      (byte.getLsbD 2 = true ↔ s.tb.state ≠ .tracking) ∧ (byte.getLsbD 1 = true ↔ s.output.state ≠ .running) ∧
      (byte.getLsbD 0 = true ↔ (portOf s.ports p).frameErr = true)

/-- The commands that need direction answer NotDirecting, whatever their arguments, from a port that does not direct, and
have no other effect. -/
def Obligations.CommandsNeedDirection : Prop :=
  ∀ (s : State) (p : Port) (args : List Byte), s.direction.director ≠ some p →
    ∀ c code, (c, code) ∈ [(Instr.writeSetting p args, (0x07 : Byte)), (.applyStaged p args, 0x09),
      (.discardStaged p args, 0x0A), (.startEmission p args, 0x0B), (.stopEmission p args, 0x0C),
      (.setMute p args, 0x0D), (.forcePath p args, 0x0E), (.createBreak p args, 0x0F), (.amendBreak p args, 0x10),
      (.cancelBreak p args, 0x11), (.retireBreak p args, 0x12), (.clearFaults p args, 0x16),
      (.setAlertPriority p args, 0x1B), (.restartSite p args, 0x1C)] →
    exec c s = .next { s with ports := answered p code .notDirecting [] s.ports }

/-- The reading commands change nothing but the port's response, whose data fits in 96 bytes: Done, with the fields that
the rules list in their order, for every part, setting, break and monitor there is, NoSuchBreak for an id that no record
holds, BadArgument otherwise, tested first (logs 38 and 39). The encoding of the fields is logs 16, 17 and 18, that a setting
shown in a report takes one byte, and that of a value its width cannot hold the low bits are sent, among them (log 17). -/
def Obligations.ReadsChangeNothing : Prop :=
  ∀ (s : State) (p : Port), s.link.created.length ≤ 16 → s.breaks.terminalOrder.length ≤ 16 →
    let answers (c : Instr) (code : Byte) (r : Result) (fields : Fields) : Prop :=
      exec c s = .next { s with ports := answered p code r (layoutBytes fields) s.ports } ∧
        (layoutBytes fields).length ≤ 96
    (∀ part : Byte,
      (part.toNat ≤ 10 → answers (.readStatus p [part]) 0x02 .done (statusFields s part.toNat)) ∧
      (10 < part.toNat → answers (.readStatus p [part]) 0x02 .badArgument [])) ∧
    (∀ a b sel : Byte,
      (1 ≤ beNat [a, b] → beNat [a, b] ≤ 113 → sel = 0 ∨ sel = 1 → answers (.readSetting p [a, b, sel]) 0x08 .done
        [num 2 (beNat [a, b]), (4, settingValue (if sel = 0 then s.settings.active else s.settings.staged) (beNat [a, b]))]) ∧
      (beNat [a, b] < 1 ∨ 113 < beNat [a, b] ∨ 1 < sel.toNat →
        answers (.readSetting p [a, b, sel]) 0x08 .badArgument [])) ∧
    (∀ a b part : Byte,
      (2 < part.toNat → answers (.readBreak p [a, b, part]) 0x13 .badArgument []) ∧
      (part.toNat ≤ 2 → (∀ r x, recOf s r = some x → x.id ≠ BitVec.ofNat 16 (beNat [a, b])) →
        answers (.readBreak p [a, b, part]) 0x13 .noSuchBreak []) ∧
      (∀ r x, part.toNat ≤ 2 → findBreak s (BitVec.ofNat 16 (beNat [a, b])) = some r → recOf s r = some x →
        answers (.readBreak p [a, b, part]) 0x13 .done (breakFields r x part.toNat))) ∧
    answers (.listBreaks p []) 0x14 .done (tableFields s.breaks) ∧
    answers (.readTimebase p []) 0x17 .done (timebaseFields s.tb) ∧
    (∀ m : Byte, (m.toNat ≤ 17 → answers (.readMonitor p [m]) 0x15 .done (monitorFields s m.toNat)) ∧
      (17 < m.toNat → answers (.readMonitor p [m]) 0x15 .badArgument [])) ∧
    (∀ args : List Byte, args.length ≠ 1 → answers (.readStatus p args) 0x02 .badArgument [] ∧
      answers (.readMonitor p args) 0x15 .badArgument []) ∧
    (∀ args : List Byte, args.length ≠ 3 → answers (.readSetting p args) 0x08 .badArgument [] ∧
      answers (.readBreak p args) 0x13 .badArgument []) ∧
    (∀ args : List Byte, args ≠ [] → answers (.listBreaks p args) 0x14 .badArgument [] ∧
      answers (.readTimebase p args) 0x17 .badArgument [])

/-! ### Direction and presence (10) -/

/-- Claim Direction, Release Direction and Refuse Claim by the standing of the sending port. A change of director raises
source 12, evaluates M15 inactive and starts the new director's presence state. -/
def Obligations.DirectionCommandsByStanding : Prop :=
  ∀ (s : State) (p : Port),
    let becomes (c : Instr) (code : Byte) (director claim : Option Port) : Prop :=
      ∃ t, exec c s = .next t ∧
        t = { s with direction := t.direction, monitors := t.monitors
                     alerts := (raise srcDirection s).alerts, ports := answered p code .done [] s.ports } ∧
        conditionTaken mon15 false s t ∧ othersKept [mon15] s t ∧
        t.direction = ⟨director, claim, director.map fun _ =>
          ⟨s.tb.localTime, none, false, addTicks s.tb.localTime (s.profile.presenceHigh * 10000 : Nat)⟩⟩
    (∀ flag : Byte, flag = 0 ∨ flag = 1 → s.direction.director = none →
      becomes (.claimDirection p [flag]) 0x03 (some p)
        (if s.direction.claim = some p then none else s.direction.claim)) ∧
    (∀ flag : Byte, flag = 0 ∨ flag = 1 → s.direction.director = some p →
      exec (.claimDirection p [flag]) s = .next { s with ports := answered p 0x03 .done [] s.ports }) ∧
    (s.direction.director = some (otherPort p) →
      becomes (.claimDirection p [1]) 0x03 (some p)
        (if s.direction.claim = some p then none else s.direction.claim) ∧
      exec (.claimDirection p [0]) s = .next { s with
        direction := { s.direction with claim := some p }, alerts := (raiseOn (otherPort p) srcClaim s).alerts
        ports := answered p 0x03 .pending [] s.ports }) ∧
    (s.direction.director = some p → becomes (.releaseDirection p []) 0x04 s.direction.claim none) ∧
    (s.direction.director ≠ some p → s.direction.claim = some p →
      exec (.releaseDirection p []) s = .next { s with
        direction := { s.direction with claim := none }, ports := answered p 0x04 .done [] s.ports }) ∧
    (s.direction.director ≠ some p → s.direction.claim ≠ some p →
      exec (.releaseDirection p []) s = .next { s with ports := answered p 0x04 .notDirecting [] s.ports }) ∧
    (s.direction.director ≠ some p →
      exec (.refuseClaim p []) s = .next { s with ports := answered p 0x05 .notDirecting [] s.ports }) ∧
    (s.direction.director = some p → s.direction.claim = none →
      exec (.refuseClaim p []) s = .next { s with ports := answered p 0x05 .wrongState [] s.ports }) ∧
    (∀ c, s.direction.director = some p → s.direction.claim = some c →
      exec (.refuseClaim p []) s = .next { s with
        direction := { s.direction with claim := none }, alerts := (raiseOn c srcClaim s).alerts
        ports := answered p 0x05 .done [] s.ports })

/-- Presence from the director: with M15 in OFF, or neither early nor with the last marker, it is accepted and restarts
the reference and the deadline; otherwise it is a presence fault, and so is a deadline that is reached. A fault that
latches M15 in LATCH passes direction to the pending claimant, or to none; so does one that finds the flag standing
(log 19). The reference of a missing presence is log 28. -/
def Obligations.PresenceIsJudged : Prop :=
  ∀ (s : State) (p : Port) (v : PresenceState), s.direction.director = some p → s.direction.presence = some v →
    let early : Prop := timeDiff s.tb.localTime v.reference < (s.profile.presenceLow * 10000 : Nat) ∧ v.relaxed = false
    let faulted (kept : PresenceState) (t : State) : Prop :=
      (portOf t.alerts.ports .a).marks.get srcPresence = true ∧
      (portOf t.alerts.ports .b).marks.get srcPresence = true ∧ othersKept [mon15] s t ∧
      raisedOnly [srcPresence, srcDirection, srcFault, srcWarning] s t ∧
      ((monRec s mon15).latched = false →
        (monSetting s mon15).mode ≠ .latch ∨ (monRec s mon15).condition = true ∨
          (monRec s mon15).count + 1 < (monSetting s mon15).persistence →
        t.direction = { s.direction with presence := some kept } ∧ conditionTaken mon15 true s t) ∧
      ((monRec s mon15).latched = true ∨ ((monSetting s mon15).mode = .latch ∧ (monRec s mon15).condition = false ∧
          (monSetting s mon15).persistence ≤ (monRec s mon15).count + 1) →
        t.direction.director = s.direction.claim ∧ t.direction.claim = none ∧ (monRec t mon15).latched = true ∧
        (monRec t mon15).condition = false ∧
        ∀ port, (portOf t.alerts.ports port).marks.get srcDirection = true)
    (∀ (b : Byte) (marker : Bool), (b, marker) ∈ [((0 : Byte), false), (1, true)] →
      ((monSetting s mon15).mode = .off ∨ (¬ early ∧ v.lastMarker ≠ some marker) →
        ∃ t, exec (.presence p [b]) s = .next t ∧
          t = { s with direction := t.direction, monitors := t.monitors
                       ports := answered p 0x06 .done [] s.ports } ∧ conditionTaken mon15 false s t ∧
          othersKept [mon15] s t ∧ t.direction = { s.direction with presence := some ⟨s.tb.localTime, some marker, false,
            addTicks s.tb.localTime (s.profile.presenceHigh * 10000 : Nat)⟩ }) ∧
      ((monSetting s mon15).mode ≠ .off → early ∨ v.lastMarker = some marker →
        ∃ t, exec (.presence p [b]) s = .next t ∧
          t = { s with direction := t.direction, monitors := t.monitors, alerts := t.alerts
                       ports := answered p 0x06 .wrongState [] s.ports } ∧ faulted v t)) ∧
    (0 ≤ timeDiff s.tb.localTime v.deadline →
      let kept : PresenceState := ⟨s.tb.localTime, v.lastMarker, true,
        addTicks v.deadline (s.profile.presenceHigh * 10000 : Nat)⟩
      ∃ t, exec .presenceMissing s = .next t ∧
        t = { s with direction := t.direction, monitors := t.monitors, alerts := t.alerts } ∧
        ((monSetting s mon15).mode = .off →
          t = { s with direction := { s.direction with presence := some kept } }) ∧
        ((monSetting s mon15).mode ≠ .off → faulted kept t))

/-! ### Staged settings (10) -/

/-- Write Setting from the director: refused while an Apply is pending; a numeric value is stored within its range,
Clamped when outside it, an enumerated one only when it is a value of the setting; the staged profile alone changes, in
that setting alone, and Read Setting answers what was stored. -/
def Obligations.WriteSettingStoresWithinRange : Prop :=
  ∀ (s : State) (p : Port) (id : Nat) (v : Int), s.direction.director = some p → -2147483648 ≤ v → v < 2147483648 →
    let c := Instr.writeSetting p (settingBytes id v)
    let stores (r : Result) (w : Int) : Prop :=
      ∃ t, exec c s = .next t ∧
        t = { s with settings := { s.settings with staged := t.settings.staged }
                     ports := answered p 0x07 r (beBytes 2 id ++ beSigned 4 w) s.ports } ∧
        settingValue t.settings.staged id = w ∧
        (∀ j, 1 ≤ j → j ≤ 113 → j ≠ id → settingValue t.settings.staged j = settingValue s.settings.staged j) ∧
        ∃ u, exec (.readSetting p (beBytes 2 id ++ [1])) t = .next u ∧
          (portOf u.ports p).response = ⟨0x08, .done, beBytes 2 id ++ beSigned 4 w⟩
    (id = 0 ∨ 113 < id → id < 65536 →
      exec c s = .next { s with ports := answered p 0x07 .badArgument [] s.ports }) ∧
    (1 ≤ id → id ≤ 113 →
      (s.settings.apply ≠ .none →
        exec c s = .next { s with ports := answered p 0x07 .wrongState [] s.ports }) ∧
      (s.settings.apply = .none →
        (∀ low high, settingClass id = some (.numeric low high) →
          (low ≤ v → v ≤ high → stores .done v) ∧ (v < low → stores .clamped low) ∧
          (high < v → low ≤ v → stores .clamped high)) ∧
        (∀ values, settingClass id = some (.enumerated values) →
          (v ∈ values → stores .done v) ∧
          (v ∉ values → exec c s = .next { s with ports := answered p 0x07 .badArgument [] s.ports }))))

/-- Apply Staged: the tests in order, each with its result; an Apply that passes becomes pending, with the staged start
fill held to the high mark. With the timeline Absent, form 0 takes effect at once, and what is kept of the feed lines is
abandoned exactly when T_f or N_p changes (log 5). Any other takes effect at the first boundary whose sequence it waits
for, and that boundary is then taken on what the Apply leaves. What each block does (`Applied`) is the same in both cases:
R28, R42, R50, R68 to R73 and R160, in the order of log 41; the sequence of that boundary stands for X in R70 to R72
(log 12), the sweep of R73 is log 11, and a boundary that a re-anchor has moved ahead is not taken yet (log 9); a revert
count that starts is compared at the next good frame (log 31). That the Apply comes first at its boundary is log 8; boundary
times are R63 literally (log 10); and where two Held frames have one earliest release instant, the one in the lower-numbered
slot anchors the timeline (log 40). -/
def Obligations.ApplyStagedTakesEffect : Prop :=
  (∀ (s : State) (p : Port) (form : PendingApply) (args : List Byte), s.direction.director = some p →
    applyForm args = some form →
    let refused (r : Result) : Prop := exec (.applyStaged p args) s = .next { s with ports := answered p 0x09 r [] s.ports }
    let v := s.settings
    let formatChanged : Prop := v.staged.frameInterval ≠ v.active.frameInterval ∨ v.staged.packets ≠ v.active.packets
    let offGrid : Prop := ((s.output.state = .running ∨ s.output.state = .muted) ∧
      ¬ (v.active.frameInterval : Int) ∣ (offsetSum v.staged - offsetSum v.active))
    let late : Prop := ∃ x y, form = .atSeq x ∧ timelineSeq s = some y ∧ atOrAfter x (y + 2) = false
    let filled : Profile := { v.staged with startFill := min v.staged.startFill v.staged.highMark }
    let r : Result := if v.staged.highMark < v.staged.startFill then .clamped else .done
    (v.apply ≠ .none → refused .wrongState) ∧
    (v.apply = .none → v.staged.presenceHigh ≤ v.staged.presenceLow → refused .badArgument) ∧
    (v.apply = .none → v.staged.presenceLow < v.staged.presenceHigh →
      ((formatChanged ∧ s.output.state ≠ .idle) ∨ offGrid → refused .wrongState) ∧
      (¬ (formatChanged ∧ s.output.state ≠ .idle) → ¬ offGrid →
        (late → refused .tooLate) ∧
        (¬ late → form ≠ .next ∨ s.store.timeline ≠ none →
          exec (.applyStaged p args) s = .next { s with
            settings := ⟨v.active, filled, form⟩, ports := answered p 0x09 r [] s.ports }) ∧
        (form = .next → s.store.timeline = none →
          ∃ t, exec (.applyStaged p args) s = .next t ∧ t.settings = ⟨filled, filled, .none⟩ ∧
            t = { s with settings := t.settings, tb := t.tb, feeds := t.feeds, merge := t.merge, store := t.store
                         output := t.output, monitors := t.monitors, alerts := t.alerts, lines := t.lines
                         ports := answered p 0x09 r [] s.ports } ∧
            t.lines.tod = s.lines.tod ∧ t.lines.advert = s.lines.advert ∧
            (formatChanged → t.lines.feeds = ⟨[], []⟩) ∧ (¬ formatChanged → t.lines.feeds = s.lines.feeds) ∧
            (∀ port, (portOf t.alerts.ports port).marks.get srcApply = true) ∧
            ∃ u, Applied none { s with settings := ⟨v.active, filled, form⟩ } u ∧
              t = { u with ports := answered p 0x09 r [] s.ports })))) ∧
  (∀ (s : State) (ready : Bool) (tl : Timeline), s.store.timeline = some tl →
    0 ≤ timeDiff s.tb.localTime tl.nextBoundary →
    ∃ t, exec (.boundary ready) s = .next t ∧
      (∀ q, (fixCarry s.profile.frameInterval tl).1 = some q →
        s.settings.apply = .next ∨ (∃ x, s.settings.apply = .atSeq x ∧ atOrAfter q x = true) →
        t.settings = ⟨s.settings.staged, s.settings.staged, .none⟩ ∧
        (∀ port, (portOf t.alerts.ports port).marks.get srcApply = true) ∧
        ∃ u, Applied (some q) s u ∧ exec (.boundary ready) u = .next t) ∧
      ((∀ q, (fixCarry s.profile.frameInterval tl).1 = some q →
        s.settings.apply = .none ∨ (∃ x, s.settings.apply = .atSeq x ∧ atOrAfter q x = false)) →
        t.settings = s.settings))

/-- R172: Discard Staged from the director. -/
def Obligations.DiscardStagedCancels : Prop :=
  ∀ (s : State) (p : Port) (args : List Byte), s.direction.director = some p →
    (args ≠ [] → exec (.discardStaged p args) s = .next { s with ports := answered p 0x0A .badArgument [] s.ports }) ∧
    (args = [] → ∃ t, exec (.discardStaged p args) s = .next t ∧
      t = { s with settings := ⟨s.settings.active, s.settings.active, .none⟩
                   ports := answered p 0x0A .done [] s.ports } ∧
      (∀ ready u, exec (.boundary ready) t = .next u → u.settings = t.settings ∧
        ∀ port, (portOf u.alerts.ports port).marks.get srcApply = (portOf s.alerts.ports port).marks.get srcApply) ∧
      (s.settings.apply = .none → s.settings.staged = s.settings.active → t.settings = s.settings)) ∧
    (∃ u, exec (.restartSite p []) s = .next u ∧ u.settings = { s.settings with apply := .none }) ∧
    ∃ u, exec .fullReset s = .next u ∧ u.settings.apply = .none

/-! ### Alerts (10) -/

/-- R174: what is deliverable on a port, the alert line, and the marks of sources disabled or masked. -/
def Obligations.DeliverableSourcesDriveLine : Prop :=
  (∀ (s : State) (p : Port) (src : Source),
    (deliverable s p src = true ↔ (portOf s.alerts.ports p).marks.get src = true ∧
      (src.val ∈ [11, 12, 13, 16] ∨ ((portOf s.alerts.ports p).enables.get src = true ∧
        ((portOf s.alerts.ports p).mask = 0 ∨
          ((portOf s.alerts.ports p).mask = 1 ∧ s.alerts.priority.get src = true)))))) ∧
  (∀ (s : State) (p : Port), (alertLine s p = true ↔ ∃ src, deliverable s p src = true) ∧
    ((statusByte s p).getLsbD 3 = alertLine s p)) ∧
  (∀ (s : State) (p : Port) (m : Byte), m.toNat ≤ 2 →
    ∃ t, exec (.setAlertMask p [m]) s = .next t ∧
      t = { s with alerts := t.alerts, ports := answered p 0x19 .done [] s.ports } ∧
      t.alerts.priority = s.alerts.priority ∧ portOf t.alerts.ports (otherPort p) = portOf s.alerts.ports (otherPort p) ∧
      (portOf t.alerts.ports p).marks = (portOf s.alerts.ports p).marks ∧
      (portOf t.alerts.ports p).enables = (portOf s.alerts.ports p).enables ∧
      (portOf t.alerts.ports p).mask.val = m.toNat) ∧
  (∀ (s : State) (p : Port) (src : Source) (on : Bool), on = true ∨ src.val ∉ [11, 12, 13, 16] →
    ∃ t, exec (.setAlertRouting p [BitVec.ofNat 8 src.val, if on then 1 else 0]) s = .next t ∧
      t = { s with alerts := t.alerts, ports := answered p 0x18 .done [] s.ports } ∧
      t.alerts.priority = s.alerts.priority ∧ portOf t.alerts.ports (otherPort p) = portOf s.alerts.ports (otherPort p) ∧
      (portOf t.alerts.ports p).marks = (portOf s.alerts.ports p).marks ∧
      (portOf t.alerts.ports p).mask = (portOf s.alerts.ports p).mask ∧
      (∀ x, (portOf t.alerts.ports p).enables.get x =
        if x = src then on else (portOf s.alerts.ports p).enables.get x)) ∧
  (∀ (s : State) (p : Port) (src : Source) (one : Bool), s.direction.director = some p →
    ∃ t, exec (.setAlertPriority p [BitVec.ofNat 8 src.val, if one then 1 else 0]) s = .next t ∧
      t = { s with alerts := { s.alerts with priority := t.alerts.priority }
                   ports := answered p 0x1B .done [] s.ports } ∧
      (∀ x, t.alerts.priority.get x = if x = src then one else s.alerts.priority.get x))

/-- Take Alert chooses the deliverable source of highest priority level, then of lowest number, clears its mark on the
sending port alone, and answers its number; with none deliverable it answers None. -/
def Obligations.TakeAlertChoosesSource : Prop :=
  ∀ (s : State) (p : Port),
    ((∀ src, deliverable s p src = false) →
      exec (.takeAlert p []) s = .next { s with ports := answered p 0x1A .none [] s.ports }) ∧
    (∀ src, deliverable s p src = true →
      (∀ x, deliverable s p x = true → s.alerts.priority.get x = true → s.alerts.priority.get src = true) →
      (∀ x, deliverable s p x = true → s.alerts.priority.get x = s.alerts.priority.get src → src ≤ x) →
      ∃ t, exec (.takeAlert p []) s = .next t ∧
        t = { s with alerts := t.alerts
                     ports := answered p 0x1A .done [BitVec.ofNat 8 src.val] s.ports } ∧
        t.alerts.priority = s.alerts.priority ∧
        portOf t.alerts.ports (otherPort p) = portOf s.alerts.ports (otherPort p) ∧
        (portOf t.alerts.ports p).enables = (portOf s.alerts.ports p).enables ∧
        (portOf t.alerts.ports p).mask = (portOf s.alerts.ports p).mask ∧
        (∀ x, (portOf t.alerts.ports p).marks.get x =
          if x = src then false else (portOf s.alerts.ports p).marks.get x))

/-! ### Resets (10, 02) -/

/-- A full reset gives every item its full-reset value; the exciter's lines then are log 27, and the MODEL's own queue and
free-value counter go on (log 33). -/
def Obligations.FullResetGivesResetValues : Prop :=
  ∀ s : State, ∃ t, exec .fullReset s = .next t ∧
    t = { State.reset with freeCount := s.freeCount, pending := s.pending } ∧
    t.tb.localTime = ⟨0, 0⟩ ∧ t.tb.state = .free ∧ t.tb.freq = 0 ∧ t.tb.expected = none ∧ t.tod = .none ∧
    (∀ i, (feedOf t i).acq = .searching ∧ (feedOf t i).silenceDeadline = ⟨0, 960000⟩) ∧ t.merge = ⟨.one, none, 0⟩ ∧
    (∀ j, slotAt t j = .free) ∧ t.store.timeline = none ∧ t.output.state = .idle ∧ noCause t.output.causes = true ∧
    t.output.interval = none ∧ t.output.muteLine = true ∧ (∀ r, recOf t r = none ∧ queueOf t r = []) ∧
    (∀ k, slotOf t k = none) ∧ t.link.created = [] ∧ t.lines = ⟨⟨[], []⟩, [], []⟩ ∧ freePlaces t.memory = 8192 ∧ t.splice.continuity = [] ∧
    (∀ m, monRec t m = ⟨0, false, false, false, 0⟩) ∧ t.monitors.first = none ∧ t.direction = ⟨none, none, none⟩ ∧
    t.settings = ⟨defaultProfile, defaultProfile, .none⟩ ∧
    (∀ p src, (portOf t.alerts.ports p).marks.get src = false ∧ (portOf t.alerts.ports p).enables.get src = true ∧
      t.alerts.priority.get src = false) ∧
    (∀ p, alertLine t p = false ∧ (portOf t.alerts.ports p).mask = 0 ∧ (portOf t.ports p).response = ⟨0, .none, []⟩ ∧
      (portOf t.ports p).frameErr = false)

/-- Restart Site from the director resets every block but the timebase, both profiles, the direction, and the alert
enables, masks and priorities; an interval in delivery goes on without its slot. The exciter's lines are log 27, the queue and the free-value counter
log 33. -/
def Obligations.SiteRestartKeepsTimeAndDirection : Prop :=
  ∀ (s : State) (p : Port), s.direction.director = some p →
    ∃ t, exec (.restartSite p []) s = .next t ∧ t.tb = s.tb ∧ t.direction = s.direction ∧
      t.settings = { s.settings with apply := .none } ∧ t.alerts.priority = s.alerts.priority ∧
      t.ports = answered p 0x1C .done [] s.ports ∧ t.pending = s.pending ∧ t.freeCount = s.freeCount ∧ t.tod = .none ∧
      t.lines = ⟨⟨[], []⟩, [], []⟩ ∧
      (∀ i, feedOf t i =
        FeedInput.reset (addTicks s.tb.localTime (4 * s.profile.frameInterval))) ∧
      t.merge = ⟨s.profile.preferred, none, 0⟩ ∧ t.store = FrameStore.reset ∧ t.breaks = BreakTable.reset ∧
      t.memory = AdvertMemory.reset ∧ t.splice = SpliceUnit.reset ∧ t.monitors = MonitorUnit.reset ∧
      t.output = { Output.reset with interval := t.output.interval, dataLines := s.output.dataLines
                                     marker := s.output.marker } ∧
      t.output.interval = s.output.interval.map (fun v => { v with slot := none }) ∧
      t.link = { AdvertLink.reset with line := s.link.line.map fun m => { m with slot := none } } ∧
      (∀ port src, (portOf t.alerts.ports port).marks.get src = false ∧
        (portOf t.alerts.ports port).enables = (portOf s.alerts.ports port).enables ∧
        (portOf t.alerts.ports port).mask = (portOf s.alerts.ports port).mask ∧ alertLine t port = false)

/-! ### Invariants that every step keeps -/

/-- R80, R156: the output is Running only with no mute cause, and the Fault cause stands exactly while M4 or M10 holds
it; every step keeps this. -/
def Obligations.StepKeepsOutputAndFaultCause : Prop :=
  ∀ s t : State, OutputInv s → step s = .next t → OutputInv t

/-- R164: the claim is held by the port that does not direct, and the presence state stands while a port directs; every
step keeps this. -/
def Obligations.StepKeepsDirection : Prop :=
  ∀ s t : State, DirectionInv s → step s = .next t → DirectionInv t

/-- R57: no two slots in Held or Emitting carry one sequence; every step keeps this. -/
def Obligations.StepKeepsSequencesApart : Prop :=
  ∀ s t : State, StoreInv s → step s = .next t → StoreInv t

/-- R97, R99, R111: records stay apart, and replaced slots are adverts, underrun fills and tail fills together; every step
keeps this. R95, R122, R128, R131: so it keeps that the places held never exceed 8,192, that each Fetch has its reservation,
at most one for a record, at the tail of the record's queue or in its slot's name, and that the terminal order lists the
terminal records. -/
def Obligations.StepKeepsBreakRecords : Prop :=
  (∀ s t : State, BreaksInv s → step s = .next t → BreaksInv t) ∧
  ∀ s t : State, AdvertInv s → step s = .next t → AdvertInv t

/-- R13, R22: F and P stay within the active limits, and the carry within −99 to +99; every step keeps this. -/
def Obligations.StepKeepsLoopLimits : Prop :=
  ∀ s t : State, LoopInv s → step s = .next t → LoopInv t

/-- R169: both profiles keep every numeric setting within its range; every step keeps this. -/
def Obligations.StepKeepsProfilesLegal : Prop :=
  ∀ s t : State, ProfileInv s → step s = .next t → ProfileInv t

/-- R6, R68: headers in progress name N_p packets and held frames have N_p packets; every step keeps this. -/
def Obligations.StepKeepsFrameFormat : Prop :=
  ∀ s t : State, FormatInv s → step s = .next t → FormatInv t

/-- The state after reset meets all of these, and no step stops. -/
def Obligations.ResetMeetsInvariants : Prop :=
  (OutputInv State.reset ∧ DirectionInv State.reset ∧ StoreInv State.reset ∧ BreaksInv State.reset ∧
    AdvertInv State.reset ∧ LoopInv State.reset ∧ ProfileInv State.reset ∧ FormatInv State.reset) ∧
  ∀ s : State, ∃ t, step s = .next t
end

