-- ==== Sys2Proof/Laws/State.lean ====
section
/-! SUPPORT. One lemma per field and update of State, and the laws of tables and pairs, so that no later proof unfolds a record update. -/

namespace Sys2Proof.Machine

/-- Two states with the same fields are the same state. -/
theorem State.ext_fields {s t : State} (h_tb : s.tb = t.tb)
    (h_tod : s.tod = t.tod)
    (h_feeds : s.feeds = t.feeds)
    (h_merge : s.merge = t.merge)
    (h_store : s.store = t.store)
    (h_output : s.output = t.output)
    (h_breaks : s.breaks = t.breaks)
    (h_link : s.link = t.link)
    (h_memory : s.memory = t.memory)
    (h_splice : s.splice = t.splice)
    (h_monitors : s.monitors = t.monitors)
    (h_direction : s.direction = t.direction)
    (h_settings : s.settings = t.settings)
    (h_alerts : s.alerts = t.alerts)
    (h_ports : s.ports = t.ports)
    (h_lines : s.lines = t.lines)
    (h_freeCount : s.freeCount = t.freeCount)
    (h_pending : s.pending = t.pending) : s = t := by
  cases s; cases t; simp_all

variable (s : State)

/-! ### `State.setTb` -/

@[simp] theorem State.setTb_tb (v : Timebase) : (s.setTb v).tb = v := rfl
@[simp] theorem State.setTb_tod (v : Timebase) : (s.setTb v).tod = s.tod := rfl
@[simp] theorem State.setTb_feeds (v : Timebase) : (s.setTb v).feeds = s.feeds := rfl
@[simp] theorem State.setTb_merge (v : Timebase) : (s.setTb v).merge = s.merge := rfl
@[simp] theorem State.setTb_store (v : Timebase) : (s.setTb v).store = s.store := rfl
@[simp] theorem State.setTb_output (v : Timebase) : (s.setTb v).output = s.output := rfl
@[simp] theorem State.setTb_breaks (v : Timebase) : (s.setTb v).breaks = s.breaks := rfl
@[simp] theorem State.setTb_link (v : Timebase) : (s.setTb v).link = s.link := rfl
@[simp] theorem State.setTb_memory (v : Timebase) : (s.setTb v).memory = s.memory := rfl
@[simp] theorem State.setTb_splice (v : Timebase) : (s.setTb v).splice = s.splice := rfl
@[simp] theorem State.setTb_monitors (v : Timebase) : (s.setTb v).monitors = s.monitors := rfl
@[simp] theorem State.setTb_direction (v : Timebase) : (s.setTb v).direction = s.direction := rfl
@[simp] theorem State.setTb_settings (v : Timebase) : (s.setTb v).settings = s.settings := rfl
@[simp] theorem State.setTb_alerts (v : Timebase) : (s.setTb v).alerts = s.alerts := rfl
@[simp] theorem State.setTb_ports (v : Timebase) : (s.setTb v).ports = s.ports := rfl
@[simp] theorem State.setTb_lines (v : Timebase) : (s.setTb v).lines = s.lines := rfl
@[simp] theorem State.setTb_freeCount (v : Timebase) : (s.setTb v).freeCount = s.freeCount := rfl
@[simp] theorem State.setTb_pending (v : Timebase) : (s.setTb v).pending = s.pending := rfl

/-! ### `State.setTod` -/

@[simp] theorem State.setTod_tb (v : TodState) : (s.setTod v).tb = s.tb := rfl
@[simp] theorem State.setTod_tod (v : TodState) : (s.setTod v).tod = v := rfl
@[simp] theorem State.setTod_feeds (v : TodState) : (s.setTod v).feeds = s.feeds := rfl
@[simp] theorem State.setTod_merge (v : TodState) : (s.setTod v).merge = s.merge := rfl
@[simp] theorem State.setTod_store (v : TodState) : (s.setTod v).store = s.store := rfl
@[simp] theorem State.setTod_output (v : TodState) : (s.setTod v).output = s.output := rfl
@[simp] theorem State.setTod_breaks (v : TodState) : (s.setTod v).breaks = s.breaks := rfl
@[simp] theorem State.setTod_link (v : TodState) : (s.setTod v).link = s.link := rfl
@[simp] theorem State.setTod_memory (v : TodState) : (s.setTod v).memory = s.memory := rfl
@[simp] theorem State.setTod_splice (v : TodState) : (s.setTod v).splice = s.splice := rfl
@[simp] theorem State.setTod_monitors (v : TodState) : (s.setTod v).monitors = s.monitors := rfl
@[simp] theorem State.setTod_direction (v : TodState) : (s.setTod v).direction = s.direction := rfl
@[simp] theorem State.setTod_settings (v : TodState) : (s.setTod v).settings = s.settings := rfl
@[simp] theorem State.setTod_alerts (v : TodState) : (s.setTod v).alerts = s.alerts := rfl
@[simp] theorem State.setTod_ports (v : TodState) : (s.setTod v).ports = s.ports := rfl
@[simp] theorem State.setTod_lines (v : TodState) : (s.setTod v).lines = s.lines := rfl
@[simp] theorem State.setTod_freeCount (v : TodState) : (s.setTod v).freeCount = s.freeCount := rfl
@[simp] theorem State.setTod_pending (v : TodState) : (s.setTod v).pending = s.pending := rfl

/-! ### `State.setFeeds` -/

@[simp] theorem State.setFeeds_tb (v : Two FeedInput) : (s.setFeeds v).tb = s.tb := rfl
@[simp] theorem State.setFeeds_tod (v : Two FeedInput) : (s.setFeeds v).tod = s.tod := rfl
@[simp] theorem State.setFeeds_feeds (v : Two FeedInput) : (s.setFeeds v).feeds = v := rfl
@[simp] theorem State.setFeeds_merge (v : Two FeedInput) : (s.setFeeds v).merge = s.merge := rfl
@[simp] theorem State.setFeeds_store (v : Two FeedInput) : (s.setFeeds v).store = s.store := rfl
@[simp] theorem State.setFeeds_output (v : Two FeedInput) : (s.setFeeds v).output = s.output := rfl
@[simp] theorem State.setFeeds_breaks (v : Two FeedInput) : (s.setFeeds v).breaks = s.breaks := rfl
@[simp] theorem State.setFeeds_link (v : Two FeedInput) : (s.setFeeds v).link = s.link := rfl
@[simp] theorem State.setFeeds_memory (v : Two FeedInput) : (s.setFeeds v).memory = s.memory := rfl
@[simp] theorem State.setFeeds_splice (v : Two FeedInput) : (s.setFeeds v).splice = s.splice := rfl
@[simp] theorem State.setFeeds_monitors (v : Two FeedInput) : (s.setFeeds v).monitors = s.monitors := rfl
@[simp] theorem State.setFeeds_direction (v : Two FeedInput) : (s.setFeeds v).direction = s.direction := rfl
@[simp] theorem State.setFeeds_settings (v : Two FeedInput) : (s.setFeeds v).settings = s.settings := rfl
@[simp] theorem State.setFeeds_alerts (v : Two FeedInput) : (s.setFeeds v).alerts = s.alerts := rfl
@[simp] theorem State.setFeeds_ports (v : Two FeedInput) : (s.setFeeds v).ports = s.ports := rfl
@[simp] theorem State.setFeeds_lines (v : Two FeedInput) : (s.setFeeds v).lines = s.lines := rfl
@[simp] theorem State.setFeeds_freeCount (v : Two FeedInput) : (s.setFeeds v).freeCount = s.freeCount := rfl
@[simp] theorem State.setFeeds_pending (v : Two FeedInput) : (s.setFeeds v).pending = s.pending := rfl

/-! ### `State.setMerge` -/

@[simp] theorem State.setMerge_tb (v : PathMerge) : (s.setMerge v).tb = s.tb := rfl
@[simp] theorem State.setMerge_tod (v : PathMerge) : (s.setMerge v).tod = s.tod := rfl
@[simp] theorem State.setMerge_feeds (v : PathMerge) : (s.setMerge v).feeds = s.feeds := rfl
@[simp] theorem State.setMerge_merge (v : PathMerge) : (s.setMerge v).merge = v := rfl
@[simp] theorem State.setMerge_store (v : PathMerge) : (s.setMerge v).store = s.store := rfl
@[simp] theorem State.setMerge_output (v : PathMerge) : (s.setMerge v).output = s.output := rfl
@[simp] theorem State.setMerge_breaks (v : PathMerge) : (s.setMerge v).breaks = s.breaks := rfl
@[simp] theorem State.setMerge_link (v : PathMerge) : (s.setMerge v).link = s.link := rfl
@[simp] theorem State.setMerge_memory (v : PathMerge) : (s.setMerge v).memory = s.memory := rfl
@[simp] theorem State.setMerge_splice (v : PathMerge) : (s.setMerge v).splice = s.splice := rfl
@[simp] theorem State.setMerge_monitors (v : PathMerge) : (s.setMerge v).monitors = s.monitors := rfl
@[simp] theorem State.setMerge_direction (v : PathMerge) : (s.setMerge v).direction = s.direction := rfl
@[simp] theorem State.setMerge_settings (v : PathMerge) : (s.setMerge v).settings = s.settings := rfl
@[simp] theorem State.setMerge_alerts (v : PathMerge) : (s.setMerge v).alerts = s.alerts := rfl
@[simp] theorem State.setMerge_ports (v : PathMerge) : (s.setMerge v).ports = s.ports := rfl
@[simp] theorem State.setMerge_lines (v : PathMerge) : (s.setMerge v).lines = s.lines := rfl
@[simp] theorem State.setMerge_freeCount (v : PathMerge) : (s.setMerge v).freeCount = s.freeCount := rfl
@[simp] theorem State.setMerge_pending (v : PathMerge) : (s.setMerge v).pending = s.pending := rfl

/-! ### `State.setStore` -/

@[simp] theorem State.setStore_tb (v : FrameStore) : (s.setStore v).tb = s.tb := rfl
@[simp] theorem State.setStore_tod (v : FrameStore) : (s.setStore v).tod = s.tod := rfl
@[simp] theorem State.setStore_feeds (v : FrameStore) : (s.setStore v).feeds = s.feeds := rfl
@[simp] theorem State.setStore_merge (v : FrameStore) : (s.setStore v).merge = s.merge := rfl
@[simp] theorem State.setStore_store (v : FrameStore) : (s.setStore v).store = v := rfl
@[simp] theorem State.setStore_output (v : FrameStore) : (s.setStore v).output = s.output := rfl
@[simp] theorem State.setStore_breaks (v : FrameStore) : (s.setStore v).breaks = s.breaks := rfl
@[simp] theorem State.setStore_link (v : FrameStore) : (s.setStore v).link = s.link := rfl
@[simp] theorem State.setStore_memory (v : FrameStore) : (s.setStore v).memory = s.memory := rfl
@[simp] theorem State.setStore_splice (v : FrameStore) : (s.setStore v).splice = s.splice := rfl
@[simp] theorem State.setStore_monitors (v : FrameStore) : (s.setStore v).monitors = s.monitors := rfl
@[simp] theorem State.setStore_direction (v : FrameStore) : (s.setStore v).direction = s.direction := rfl
@[simp] theorem State.setStore_settings (v : FrameStore) : (s.setStore v).settings = s.settings := rfl
@[simp] theorem State.setStore_alerts (v : FrameStore) : (s.setStore v).alerts = s.alerts := rfl
@[simp] theorem State.setStore_ports (v : FrameStore) : (s.setStore v).ports = s.ports := rfl
@[simp] theorem State.setStore_lines (v : FrameStore) : (s.setStore v).lines = s.lines := rfl
@[simp] theorem State.setStore_freeCount (v : FrameStore) : (s.setStore v).freeCount = s.freeCount := rfl
@[simp] theorem State.setStore_pending (v : FrameStore) : (s.setStore v).pending = s.pending := rfl

/-! ### `State.setOutput` -/

@[simp] theorem State.setOutput_tb (v : Output) : (s.setOutput v).tb = s.tb := rfl
@[simp] theorem State.setOutput_tod (v : Output) : (s.setOutput v).tod = s.tod := rfl
@[simp] theorem State.setOutput_feeds (v : Output) : (s.setOutput v).feeds = s.feeds := rfl
@[simp] theorem State.setOutput_merge (v : Output) : (s.setOutput v).merge = s.merge := rfl
@[simp] theorem State.setOutput_store (v : Output) : (s.setOutput v).store = s.store := rfl
@[simp] theorem State.setOutput_output (v : Output) : (s.setOutput v).output = v := rfl
@[simp] theorem State.setOutput_breaks (v : Output) : (s.setOutput v).breaks = s.breaks := rfl
@[simp] theorem State.setOutput_link (v : Output) : (s.setOutput v).link = s.link := rfl
@[simp] theorem State.setOutput_memory (v : Output) : (s.setOutput v).memory = s.memory := rfl
@[simp] theorem State.setOutput_splice (v : Output) : (s.setOutput v).splice = s.splice := rfl
@[simp] theorem State.setOutput_monitors (v : Output) : (s.setOutput v).monitors = s.monitors := rfl
@[simp] theorem State.setOutput_direction (v : Output) : (s.setOutput v).direction = s.direction := rfl
@[simp] theorem State.setOutput_settings (v : Output) : (s.setOutput v).settings = s.settings := rfl
@[simp] theorem State.setOutput_alerts (v : Output) : (s.setOutput v).alerts = s.alerts := rfl
@[simp] theorem State.setOutput_ports (v : Output) : (s.setOutput v).ports = s.ports := rfl
@[simp] theorem State.setOutput_lines (v : Output) : (s.setOutput v).lines = s.lines := rfl
@[simp] theorem State.setOutput_freeCount (v : Output) : (s.setOutput v).freeCount = s.freeCount := rfl
@[simp] theorem State.setOutput_pending (v : Output) : (s.setOutput v).pending = s.pending := rfl

/-! ### `State.setBreaks` -/

@[simp] theorem State.setBreaks_tb (v : BreakTable) : (s.setBreaks v).tb = s.tb := rfl
@[simp] theorem State.setBreaks_tod (v : BreakTable) : (s.setBreaks v).tod = s.tod := rfl
@[simp] theorem State.setBreaks_feeds (v : BreakTable) : (s.setBreaks v).feeds = s.feeds := rfl
@[simp] theorem State.setBreaks_merge (v : BreakTable) : (s.setBreaks v).merge = s.merge := rfl
@[simp] theorem State.setBreaks_store (v : BreakTable) : (s.setBreaks v).store = s.store := rfl
@[simp] theorem State.setBreaks_output (v : BreakTable) : (s.setBreaks v).output = s.output := rfl
@[simp] theorem State.setBreaks_breaks (v : BreakTable) : (s.setBreaks v).breaks = v := rfl
@[simp] theorem State.setBreaks_link (v : BreakTable) : (s.setBreaks v).link = s.link := rfl
@[simp] theorem State.setBreaks_memory (v : BreakTable) : (s.setBreaks v).memory = s.memory := rfl
@[simp] theorem State.setBreaks_splice (v : BreakTable) : (s.setBreaks v).splice = s.splice := rfl
@[simp] theorem State.setBreaks_monitors (v : BreakTable) : (s.setBreaks v).monitors = s.monitors := rfl
@[simp] theorem State.setBreaks_direction (v : BreakTable) : (s.setBreaks v).direction = s.direction := rfl
@[simp] theorem State.setBreaks_settings (v : BreakTable) : (s.setBreaks v).settings = s.settings := rfl
@[simp] theorem State.setBreaks_alerts (v : BreakTable) : (s.setBreaks v).alerts = s.alerts := rfl
@[simp] theorem State.setBreaks_ports (v : BreakTable) : (s.setBreaks v).ports = s.ports := rfl
@[simp] theorem State.setBreaks_lines (v : BreakTable) : (s.setBreaks v).lines = s.lines := rfl
@[simp] theorem State.setBreaks_freeCount (v : BreakTable) : (s.setBreaks v).freeCount = s.freeCount := rfl
@[simp] theorem State.setBreaks_pending (v : BreakTable) : (s.setBreaks v).pending = s.pending := rfl

/-! ### `State.setLink` -/

@[simp] theorem State.setLink_tb (v : AdvertLink) : (s.setLink v).tb = s.tb := rfl
@[simp] theorem State.setLink_tod (v : AdvertLink) : (s.setLink v).tod = s.tod := rfl
@[simp] theorem State.setLink_feeds (v : AdvertLink) : (s.setLink v).feeds = s.feeds := rfl
@[simp] theorem State.setLink_merge (v : AdvertLink) : (s.setLink v).merge = s.merge := rfl
@[simp] theorem State.setLink_store (v : AdvertLink) : (s.setLink v).store = s.store := rfl
@[simp] theorem State.setLink_output (v : AdvertLink) : (s.setLink v).output = s.output := rfl
@[simp] theorem State.setLink_breaks (v : AdvertLink) : (s.setLink v).breaks = s.breaks := rfl
@[simp] theorem State.setLink_link (v : AdvertLink) : (s.setLink v).link = v := rfl
@[simp] theorem State.setLink_memory (v : AdvertLink) : (s.setLink v).memory = s.memory := rfl
@[simp] theorem State.setLink_splice (v : AdvertLink) : (s.setLink v).splice = s.splice := rfl
@[simp] theorem State.setLink_monitors (v : AdvertLink) : (s.setLink v).monitors = s.monitors := rfl
@[simp] theorem State.setLink_direction (v : AdvertLink) : (s.setLink v).direction = s.direction := rfl
@[simp] theorem State.setLink_settings (v : AdvertLink) : (s.setLink v).settings = s.settings := rfl
@[simp] theorem State.setLink_alerts (v : AdvertLink) : (s.setLink v).alerts = s.alerts := rfl
@[simp] theorem State.setLink_ports (v : AdvertLink) : (s.setLink v).ports = s.ports := rfl
@[simp] theorem State.setLink_lines (v : AdvertLink) : (s.setLink v).lines = s.lines := rfl
@[simp] theorem State.setLink_freeCount (v : AdvertLink) : (s.setLink v).freeCount = s.freeCount := rfl
@[simp] theorem State.setLink_pending (v : AdvertLink) : (s.setLink v).pending = s.pending := rfl

/-! ### `State.setMemory` -/

@[simp] theorem State.setMemory_tb (v : AdvertMemory) : (s.setMemory v).tb = s.tb := rfl
@[simp] theorem State.setMemory_tod (v : AdvertMemory) : (s.setMemory v).tod = s.tod := rfl
@[simp] theorem State.setMemory_feeds (v : AdvertMemory) : (s.setMemory v).feeds = s.feeds := rfl
@[simp] theorem State.setMemory_merge (v : AdvertMemory) : (s.setMemory v).merge = s.merge := rfl
@[simp] theorem State.setMemory_store (v : AdvertMemory) : (s.setMemory v).store = s.store := rfl
@[simp] theorem State.setMemory_output (v : AdvertMemory) : (s.setMemory v).output = s.output := rfl
@[simp] theorem State.setMemory_breaks (v : AdvertMemory) : (s.setMemory v).breaks = s.breaks := rfl
@[simp] theorem State.setMemory_link (v : AdvertMemory) : (s.setMemory v).link = s.link := rfl
@[simp] theorem State.setMemory_memory (v : AdvertMemory) : (s.setMemory v).memory = v := rfl
@[simp] theorem State.setMemory_splice (v : AdvertMemory) : (s.setMemory v).splice = s.splice := rfl
@[simp] theorem State.setMemory_monitors (v : AdvertMemory) : (s.setMemory v).monitors = s.monitors := rfl
@[simp] theorem State.setMemory_direction (v : AdvertMemory) : (s.setMemory v).direction = s.direction := rfl
@[simp] theorem State.setMemory_settings (v : AdvertMemory) : (s.setMemory v).settings = s.settings := rfl
@[simp] theorem State.setMemory_alerts (v : AdvertMemory) : (s.setMemory v).alerts = s.alerts := rfl
@[simp] theorem State.setMemory_ports (v : AdvertMemory) : (s.setMemory v).ports = s.ports := rfl
@[simp] theorem State.setMemory_lines (v : AdvertMemory) : (s.setMemory v).lines = s.lines := rfl
@[simp] theorem State.setMemory_freeCount (v : AdvertMemory) : (s.setMemory v).freeCount = s.freeCount := rfl
@[simp] theorem State.setMemory_pending (v : AdvertMemory) : (s.setMemory v).pending = s.pending := rfl

/-! ### `State.setSplice` -/

@[simp] theorem State.setSplice_tb (v : SpliceUnit) : (s.setSplice v).tb = s.tb := rfl
@[simp] theorem State.setSplice_tod (v : SpliceUnit) : (s.setSplice v).tod = s.tod := rfl
@[simp] theorem State.setSplice_feeds (v : SpliceUnit) : (s.setSplice v).feeds = s.feeds := rfl
@[simp] theorem State.setSplice_merge (v : SpliceUnit) : (s.setSplice v).merge = s.merge := rfl
@[simp] theorem State.setSplice_store (v : SpliceUnit) : (s.setSplice v).store = s.store := rfl
@[simp] theorem State.setSplice_output (v : SpliceUnit) : (s.setSplice v).output = s.output := rfl
@[simp] theorem State.setSplice_breaks (v : SpliceUnit) : (s.setSplice v).breaks = s.breaks := rfl
@[simp] theorem State.setSplice_link (v : SpliceUnit) : (s.setSplice v).link = s.link := rfl
@[simp] theorem State.setSplice_memory (v : SpliceUnit) : (s.setSplice v).memory = s.memory := rfl
@[simp] theorem State.setSplice_splice (v : SpliceUnit) : (s.setSplice v).splice = v := rfl
@[simp] theorem State.setSplice_monitors (v : SpliceUnit) : (s.setSplice v).monitors = s.monitors := rfl
@[simp] theorem State.setSplice_direction (v : SpliceUnit) : (s.setSplice v).direction = s.direction := rfl
@[simp] theorem State.setSplice_settings (v : SpliceUnit) : (s.setSplice v).settings = s.settings := rfl
@[simp] theorem State.setSplice_alerts (v : SpliceUnit) : (s.setSplice v).alerts = s.alerts := rfl
@[simp] theorem State.setSplice_ports (v : SpliceUnit) : (s.setSplice v).ports = s.ports := rfl
@[simp] theorem State.setSplice_lines (v : SpliceUnit) : (s.setSplice v).lines = s.lines := rfl
@[simp] theorem State.setSplice_freeCount (v : SpliceUnit) : (s.setSplice v).freeCount = s.freeCount := rfl
@[simp] theorem State.setSplice_pending (v : SpliceUnit) : (s.setSplice v).pending = s.pending := rfl

/-! ### `State.setMonitors` -/

@[simp] theorem State.setMonitors_tb (v : MonitorUnit) : (s.setMonitors v).tb = s.tb := rfl
@[simp] theorem State.setMonitors_tod (v : MonitorUnit) : (s.setMonitors v).tod = s.tod := rfl
@[simp] theorem State.setMonitors_feeds (v : MonitorUnit) : (s.setMonitors v).feeds = s.feeds := rfl
@[simp] theorem State.setMonitors_merge (v : MonitorUnit) : (s.setMonitors v).merge = s.merge := rfl
@[simp] theorem State.setMonitors_store (v : MonitorUnit) : (s.setMonitors v).store = s.store := rfl
@[simp] theorem State.setMonitors_output (v : MonitorUnit) : (s.setMonitors v).output = s.output := rfl
@[simp] theorem State.setMonitors_breaks (v : MonitorUnit) : (s.setMonitors v).breaks = s.breaks := rfl
@[simp] theorem State.setMonitors_link (v : MonitorUnit) : (s.setMonitors v).link = s.link := rfl
@[simp] theorem State.setMonitors_memory (v : MonitorUnit) : (s.setMonitors v).memory = s.memory := rfl
@[simp] theorem State.setMonitors_splice (v : MonitorUnit) : (s.setMonitors v).splice = s.splice := rfl
@[simp] theorem State.setMonitors_monitors (v : MonitorUnit) : (s.setMonitors v).monitors = v := rfl
@[simp] theorem State.setMonitors_direction (v : MonitorUnit) : (s.setMonitors v).direction = s.direction := rfl
@[simp] theorem State.setMonitors_settings (v : MonitorUnit) : (s.setMonitors v).settings = s.settings := rfl
@[simp] theorem State.setMonitors_alerts (v : MonitorUnit) : (s.setMonitors v).alerts = s.alerts := rfl
@[simp] theorem State.setMonitors_ports (v : MonitorUnit) : (s.setMonitors v).ports = s.ports := rfl
@[simp] theorem State.setMonitors_lines (v : MonitorUnit) : (s.setMonitors v).lines = s.lines := rfl
@[simp] theorem State.setMonitors_freeCount (v : MonitorUnit) : (s.setMonitors v).freeCount = s.freeCount := rfl
@[simp] theorem State.setMonitors_pending (v : MonitorUnit) : (s.setMonitors v).pending = s.pending := rfl

/-! ### `State.setDirection` -/

@[simp] theorem State.setDirection_tb (v : Direction) : (s.setDirection v).tb = s.tb := rfl
@[simp] theorem State.setDirection_tod (v : Direction) : (s.setDirection v).tod = s.tod := rfl
@[simp] theorem State.setDirection_feeds (v : Direction) : (s.setDirection v).feeds = s.feeds := rfl
@[simp] theorem State.setDirection_merge (v : Direction) : (s.setDirection v).merge = s.merge := rfl
@[simp] theorem State.setDirection_store (v : Direction) : (s.setDirection v).store = s.store := rfl
@[simp] theorem State.setDirection_output (v : Direction) : (s.setDirection v).output = s.output := rfl
@[simp] theorem State.setDirection_breaks (v : Direction) : (s.setDirection v).breaks = s.breaks := rfl
@[simp] theorem State.setDirection_link (v : Direction) : (s.setDirection v).link = s.link := rfl
@[simp] theorem State.setDirection_memory (v : Direction) : (s.setDirection v).memory = s.memory := rfl
@[simp] theorem State.setDirection_splice (v : Direction) : (s.setDirection v).splice = s.splice := rfl
@[simp] theorem State.setDirection_monitors (v : Direction) : (s.setDirection v).monitors = s.monitors := rfl
@[simp] theorem State.setDirection_direction (v : Direction) : (s.setDirection v).direction = v := rfl
@[simp] theorem State.setDirection_settings (v : Direction) : (s.setDirection v).settings = s.settings := rfl
@[simp] theorem State.setDirection_alerts (v : Direction) : (s.setDirection v).alerts = s.alerts := rfl
@[simp] theorem State.setDirection_ports (v : Direction) : (s.setDirection v).ports = s.ports := rfl
@[simp] theorem State.setDirection_lines (v : Direction) : (s.setDirection v).lines = s.lines := rfl
@[simp] theorem State.setDirection_freeCount (v : Direction) : (s.setDirection v).freeCount = s.freeCount := rfl
@[simp] theorem State.setDirection_pending (v : Direction) : (s.setDirection v).pending = s.pending := rfl

/-! ### `State.setSettings` -/

@[simp] theorem State.setSettings_tb (v : Settings) : (s.setSettings v).tb = s.tb := rfl
@[simp] theorem State.setSettings_tod (v : Settings) : (s.setSettings v).tod = s.tod := rfl
@[simp] theorem State.setSettings_feeds (v : Settings) : (s.setSettings v).feeds = s.feeds := rfl
@[simp] theorem State.setSettings_merge (v : Settings) : (s.setSettings v).merge = s.merge := rfl
@[simp] theorem State.setSettings_store (v : Settings) : (s.setSettings v).store = s.store := rfl
@[simp] theorem State.setSettings_output (v : Settings) : (s.setSettings v).output = s.output := rfl
@[simp] theorem State.setSettings_breaks (v : Settings) : (s.setSettings v).breaks = s.breaks := rfl
@[simp] theorem State.setSettings_link (v : Settings) : (s.setSettings v).link = s.link := rfl
@[simp] theorem State.setSettings_memory (v : Settings) : (s.setSettings v).memory = s.memory := rfl
@[simp] theorem State.setSettings_splice (v : Settings) : (s.setSettings v).splice = s.splice := rfl
@[simp] theorem State.setSettings_monitors (v : Settings) : (s.setSettings v).monitors = s.monitors := rfl
@[simp] theorem State.setSettings_direction (v : Settings) : (s.setSettings v).direction = s.direction := rfl
@[simp] theorem State.setSettings_settings (v : Settings) : (s.setSettings v).settings = v := rfl
@[simp] theorem State.setSettings_alerts (v : Settings) : (s.setSettings v).alerts = s.alerts := rfl
@[simp] theorem State.setSettings_ports (v : Settings) : (s.setSettings v).ports = s.ports := rfl
@[simp] theorem State.setSettings_lines (v : Settings) : (s.setSettings v).lines = s.lines := rfl
@[simp] theorem State.setSettings_freeCount (v : Settings) : (s.setSettings v).freeCount = s.freeCount := rfl
@[simp] theorem State.setSettings_pending (v : Settings) : (s.setSettings v).pending = s.pending := rfl

/-! ### `State.setAlerts` -/

@[simp] theorem State.setAlerts_tb (v : Alerts) : (s.setAlerts v).tb = s.tb := rfl
@[simp] theorem State.setAlerts_tod (v : Alerts) : (s.setAlerts v).tod = s.tod := rfl
@[simp] theorem State.setAlerts_feeds (v : Alerts) : (s.setAlerts v).feeds = s.feeds := rfl
@[simp] theorem State.setAlerts_merge (v : Alerts) : (s.setAlerts v).merge = s.merge := rfl
@[simp] theorem State.setAlerts_store (v : Alerts) : (s.setAlerts v).store = s.store := rfl
@[simp] theorem State.setAlerts_output (v : Alerts) : (s.setAlerts v).output = s.output := rfl
@[simp] theorem State.setAlerts_breaks (v : Alerts) : (s.setAlerts v).breaks = s.breaks := rfl
@[simp] theorem State.setAlerts_link (v : Alerts) : (s.setAlerts v).link = s.link := rfl
@[simp] theorem State.setAlerts_memory (v : Alerts) : (s.setAlerts v).memory = s.memory := rfl
@[simp] theorem State.setAlerts_splice (v : Alerts) : (s.setAlerts v).splice = s.splice := rfl
@[simp] theorem State.setAlerts_monitors (v : Alerts) : (s.setAlerts v).monitors = s.monitors := rfl
@[simp] theorem State.setAlerts_direction (v : Alerts) : (s.setAlerts v).direction = s.direction := rfl
@[simp] theorem State.setAlerts_settings (v : Alerts) : (s.setAlerts v).settings = s.settings := rfl
@[simp] theorem State.setAlerts_alerts (v : Alerts) : (s.setAlerts v).alerts = v := rfl
@[simp] theorem State.setAlerts_ports (v : Alerts) : (s.setAlerts v).ports = s.ports := rfl
@[simp] theorem State.setAlerts_lines (v : Alerts) : (s.setAlerts v).lines = s.lines := rfl
@[simp] theorem State.setAlerts_freeCount (v : Alerts) : (s.setAlerts v).freeCount = s.freeCount := rfl
@[simp] theorem State.setAlerts_pending (v : Alerts) : (s.setAlerts v).pending = s.pending := rfl

/-! ### `State.setPorts` -/

@[simp] theorem State.setPorts_tb (v : Two PortState) : (s.setPorts v).tb = s.tb := rfl
@[simp] theorem State.setPorts_tod (v : Two PortState) : (s.setPorts v).tod = s.tod := rfl
@[simp] theorem State.setPorts_feeds (v : Two PortState) : (s.setPorts v).feeds = s.feeds := rfl
@[simp] theorem State.setPorts_merge (v : Two PortState) : (s.setPorts v).merge = s.merge := rfl
@[simp] theorem State.setPorts_store (v : Two PortState) : (s.setPorts v).store = s.store := rfl
@[simp] theorem State.setPorts_output (v : Two PortState) : (s.setPorts v).output = s.output := rfl
@[simp] theorem State.setPorts_breaks (v : Two PortState) : (s.setPorts v).breaks = s.breaks := rfl
@[simp] theorem State.setPorts_link (v : Two PortState) : (s.setPorts v).link = s.link := rfl
@[simp] theorem State.setPorts_memory (v : Two PortState) : (s.setPorts v).memory = s.memory := rfl
@[simp] theorem State.setPorts_splice (v : Two PortState) : (s.setPorts v).splice = s.splice := rfl
@[simp] theorem State.setPorts_monitors (v : Two PortState) : (s.setPorts v).monitors = s.monitors := rfl
@[simp] theorem State.setPorts_direction (v : Two PortState) : (s.setPorts v).direction = s.direction := rfl
@[simp] theorem State.setPorts_settings (v : Two PortState) : (s.setPorts v).settings = s.settings := rfl
@[simp] theorem State.setPorts_alerts (v : Two PortState) : (s.setPorts v).alerts = s.alerts := rfl
@[simp] theorem State.setPorts_ports (v : Two PortState) : (s.setPorts v).ports = v := rfl
@[simp] theorem State.setPorts_lines (v : Two PortState) : (s.setPorts v).lines = s.lines := rfl
@[simp] theorem State.setPorts_freeCount (v : Two PortState) : (s.setPorts v).freeCount = s.freeCount := rfl
@[simp] theorem State.setPorts_pending (v : Two PortState) : (s.setPorts v).pending = s.pending := rfl

/-! ### `State.setLines` -/

@[simp] theorem State.setLines_tb (v : Lines) : (s.setLines v).tb = s.tb := rfl
@[simp] theorem State.setLines_tod (v : Lines) : (s.setLines v).tod = s.tod := rfl
@[simp] theorem State.setLines_feeds (v : Lines) : (s.setLines v).feeds = s.feeds := rfl
@[simp] theorem State.setLines_merge (v : Lines) : (s.setLines v).merge = s.merge := rfl
@[simp] theorem State.setLines_store (v : Lines) : (s.setLines v).store = s.store := rfl
@[simp] theorem State.setLines_output (v : Lines) : (s.setLines v).output = s.output := rfl
@[simp] theorem State.setLines_breaks (v : Lines) : (s.setLines v).breaks = s.breaks := rfl
@[simp] theorem State.setLines_link (v : Lines) : (s.setLines v).link = s.link := rfl
@[simp] theorem State.setLines_memory (v : Lines) : (s.setLines v).memory = s.memory := rfl
@[simp] theorem State.setLines_splice (v : Lines) : (s.setLines v).splice = s.splice := rfl
@[simp] theorem State.setLines_monitors (v : Lines) : (s.setLines v).monitors = s.monitors := rfl
@[simp] theorem State.setLines_direction (v : Lines) : (s.setLines v).direction = s.direction := rfl
@[simp] theorem State.setLines_settings (v : Lines) : (s.setLines v).settings = s.settings := rfl
@[simp] theorem State.setLines_alerts (v : Lines) : (s.setLines v).alerts = s.alerts := rfl
@[simp] theorem State.setLines_ports (v : Lines) : (s.setLines v).ports = s.ports := rfl
@[simp] theorem State.setLines_lines (v : Lines) : (s.setLines v).lines = v := rfl
@[simp] theorem State.setLines_freeCount (v : Lines) : (s.setLines v).freeCount = s.freeCount := rfl
@[simp] theorem State.setLines_pending (v : Lines) : (s.setLines v).pending = s.pending := rfl

/-! ### `State.setFreeCount` -/

@[simp] theorem State.setFreeCount_tb (v : Nat) : (s.setFreeCount v).tb = s.tb := rfl
@[simp] theorem State.setFreeCount_tod (v : Nat) : (s.setFreeCount v).tod = s.tod := rfl
@[simp] theorem State.setFreeCount_feeds (v : Nat) : (s.setFreeCount v).feeds = s.feeds := rfl
@[simp] theorem State.setFreeCount_merge (v : Nat) : (s.setFreeCount v).merge = s.merge := rfl
@[simp] theorem State.setFreeCount_store (v : Nat) : (s.setFreeCount v).store = s.store := rfl
@[simp] theorem State.setFreeCount_output (v : Nat) : (s.setFreeCount v).output = s.output := rfl
@[simp] theorem State.setFreeCount_breaks (v : Nat) : (s.setFreeCount v).breaks = s.breaks := rfl
@[simp] theorem State.setFreeCount_link (v : Nat) : (s.setFreeCount v).link = s.link := rfl
@[simp] theorem State.setFreeCount_memory (v : Nat) : (s.setFreeCount v).memory = s.memory := rfl
@[simp] theorem State.setFreeCount_splice (v : Nat) : (s.setFreeCount v).splice = s.splice := rfl
@[simp] theorem State.setFreeCount_monitors (v : Nat) : (s.setFreeCount v).monitors = s.monitors := rfl
@[simp] theorem State.setFreeCount_direction (v : Nat) : (s.setFreeCount v).direction = s.direction := rfl
@[simp] theorem State.setFreeCount_settings (v : Nat) : (s.setFreeCount v).settings = s.settings := rfl
@[simp] theorem State.setFreeCount_alerts (v : Nat) : (s.setFreeCount v).alerts = s.alerts := rfl
@[simp] theorem State.setFreeCount_ports (v : Nat) : (s.setFreeCount v).ports = s.ports := rfl
@[simp] theorem State.setFreeCount_lines (v : Nat) : (s.setFreeCount v).lines = s.lines := rfl
@[simp] theorem State.setFreeCount_freeCount (v : Nat) : (s.setFreeCount v).freeCount = v := rfl
@[simp] theorem State.setFreeCount_pending (v : Nat) : (s.setFreeCount v).pending = s.pending := rfl

/-! ### `State.setPending` -/

@[simp] theorem State.setPending_tb (v : List Instr) : (s.setPending v).tb = s.tb := rfl
@[simp] theorem State.setPending_tod (v : List Instr) : (s.setPending v).tod = s.tod := rfl
@[simp] theorem State.setPending_feeds (v : List Instr) : (s.setPending v).feeds = s.feeds := rfl
@[simp] theorem State.setPending_merge (v : List Instr) : (s.setPending v).merge = s.merge := rfl
@[simp] theorem State.setPending_store (v : List Instr) : (s.setPending v).store = s.store := rfl
@[simp] theorem State.setPending_output (v : List Instr) : (s.setPending v).output = s.output := rfl
@[simp] theorem State.setPending_breaks (v : List Instr) : (s.setPending v).breaks = s.breaks := rfl
@[simp] theorem State.setPending_link (v : List Instr) : (s.setPending v).link = s.link := rfl
@[simp] theorem State.setPending_memory (v : List Instr) : (s.setPending v).memory = s.memory := rfl
@[simp] theorem State.setPending_splice (v : List Instr) : (s.setPending v).splice = s.splice := rfl
@[simp] theorem State.setPending_monitors (v : List Instr) : (s.setPending v).monitors = s.monitors := rfl
@[simp] theorem State.setPending_direction (v : List Instr) : (s.setPending v).direction = s.direction := rfl
@[simp] theorem State.setPending_settings (v : List Instr) : (s.setPending v).settings = s.settings := rfl
@[simp] theorem State.setPending_alerts (v : List Instr) : (s.setPending v).alerts = s.alerts := rfl
@[simp] theorem State.setPending_ports (v : List Instr) : (s.setPending v).ports = s.ports := rfl
@[simp] theorem State.setPending_lines (v : List Instr) : (s.setPending v).lines = s.lines := rfl
@[simp] theorem State.setPending_freeCount (v : List Instr) : (s.setPending v).freeCount = s.freeCount := rfl
@[simp] theorem State.setPending_pending (v : List Instr) : (s.setPending v).pending = v := rfl

end Sys2Proof.Machine
end

