-- ==== Sys2Proof/Laws/Tables.lean ====
section
/-! SUPPORT. The laws of tables, of pairs by port and by input, of counters, and of a change folded over numbered entries. -/

namespace Sys2Proof

namespace Tab

variable {n : Nat} {α β : Type}

@[simp] theorem get_set_self (t : Tab n α) (i : Fin n) (v : α) : (t.set i v).get i = v := by
  simp [get, set]

theorem get_set_ne (t : Tab n α) {i j : Fin n} (v : α) (h : j ≠ i) : (t.set i v).get j = t.get j := by
  have : i.val ≠ j.val := fun e => h (Fin.ext e.symm)
  simp [get, set, this]

theorem get_set (t : Tab n α) (i j : Fin n) (v : α) : (t.set i v).get j = if j = i then v else t.get j := by
  by_cases h : j = i
  · subst h; simp
  · simp [h, get_set_ne]

@[simp] theorem get_map (t : Tab n α) (f : α → β) (i : Fin n) : (t.map f).get i = f (t.get i) := by
  simp [get, map]

@[simp] theorem get_const (v : α) (i : Fin n) : (const n v).get i = v := by
  simp [get, const]

@[simp] theorem set_set (t : Tab n α) (i : Fin n) (v w : α) : (t.set i v).set i w = t.set i w := by
  simp [set]

@[simp] theorem set_get (t : Tab n α) (i : Fin n) : t.set i (t.get i) = t := by
  cases t; simp [set, get]

/-- Two tables with the same entries are the same table. -/
theorem ext_get {t u : Tab n α} (h : ∀ i, t.get i = u.get i) : t = u := by
  obtain ⟨a, ha⟩ := t
  obtain ⟨b, hb⟩ := u
  congr
  refine List.ext_getElem (by omega) fun k h1 h2 => ?_
  exact h ⟨k, by omega⟩

/-- A test holds of some entry of the table's list when it holds of an entry by its number. -/
theorem any_toList (t : Tab n α) (f : α → Bool) : t.toList.any f = true ↔ ∃ i, f (t.get i) = true := by
  obtain ⟨l, rfl⟩ := t
  simp only [List.any_eq_true, get]
  constructor
  · rintro ⟨x, hx, hf⟩
    obtain ⟨i, hi, rfl⟩ := List.getElem_of_mem hx
    exact ⟨⟨i, hi⟩, hf⟩
  · rintro ⟨i, hf⟩
    exact ⟨_, List.getElem_mem i.isLt, hf⟩

end Tab

namespace Machine

variable {α : Type}

@[simp] theorem portOf_setPortOf_self (t : Two α) (p : Port) (v : α) : portOf (setPortOf t p v) p = v := by
  cases p <;> rfl

@[simp] theorem portOf_setPortOf_other (t : Two α) (p : Port) (v : α) :
    portOf (setPortOf t p v) (otherPort p) = portOf t (otherPort p) := by
  cases p <;> rfl

theorem portOf_setPortOf (t : Two α) (p q : Port) (v : α) :
    portOf (setPortOf t p v) q = if q = p then v else portOf t q := by
  cases p <;> cases q <;> simp [portOf, setPortOf]

@[simp] theorem setPortOf_setPortOf (t : Two α) (p : Port) (v w : α) :
    setPortOf (setPortOf t p v) p w = setPortOf t p w := by
  cases p <;> rfl

@[simp] theorem setPortOf_portOf (t : Two α) (p : Port) : setPortOf t p (portOf t p) = t := by
  cases p <;> rfl

@[simp] theorem inputOf_setInputOf_self (t : Two α) (i : InputNo) (v : α) : inputOf (setInputOf t i v) i = v := by
  cases i <;> rfl

@[simp] theorem inputOf_setInputOf_other (t : Two α) (i : InputNo) (v : α) :
    inputOf (setInputOf t i v) (otherInput i) = inputOf t (otherInput i) := by
  cases i <;> rfl

theorem inputOf_setInputOf (t : Two α) (i j : InputNo) (v : α) :
    inputOf (setInputOf t i v) j = if j = i then v else inputOf t j := by
  cases i <;> cases j <;> simp [inputOf, setInputOf]

@[simp] theorem setInputOf_setInputOf (t : Two α) (i : InputNo) (v w : α) :
    setInputOf (setInputOf t i v) i w = setInputOf t i w := by
  cases i <;> rfl

@[simp] theorem otherInput_otherInput (i : InputNo) : otherInput (otherInput i) = i := by cases i <;> rfl

@[simp] theorem otherPort_otherPort (p : Port) : otherPort (otherPort p) = p := by cases p <;> rfl

theorem otherInput_ne (i : InputNo) : otherInput i ≠ i := by cases i <;> decide

theorem otherPort_ne (p : Port) : otherPort p ≠ p := by cases p <;> decide

/-- A property that a fold's start has and every change keeps holds of the fold's end. -/
theorem forEach_induct {n : Nat} {f : Fin n → State → State} (P : State → Prop) {s : State} (h0 : P s)
    (hstep : ∀ i t, P t → P (f i t)) : P (forEach f s) := by
  unfold forEach
  generalize numbers n = l
  induction l generalizing s with
  | nil => exact h0
  | cons i l ih => exact ih (hstep i s h0)

/-- A change folded over all numbers, seen at one number i: the changes of the numbers below i, that of i, and those of
the numbers above it. -/
theorem forEach_split {n : Nat} (f : Fin n → State → State) (s : State) (i : Fin n) :
    ∃ below above : List (Fin n), below ++ i :: above = List.finRange n ∧ i ∉ below ∧ i ∉ above ∧
      forEach f s = above.foldl (fun s j => f j s) (f i (below.foldl (fun s j => f j s) s)) := by
  obtain ⟨below, above, h⟩ := List.append_of_mem (List.mem_finRange i)
  have hn : (below ++ i :: above).Nodup := h ▸ List.nodup_finRange n
  refine ⟨below, above, h.symm, ?_, ?_, ?_⟩
  · intro hm; exact (List.nodup_append.mp hn).2.2 i hm i (by simp) rfl
  · exact (List.nodup_cons.mp (List.nodup_append.mp hn).2.1).1
  · simp [forEach, numbers, h]

/-- A property kept by the changes of a list of numbers. -/
theorem foldl_induct {n : Nat} {f : Fin n → State → State} (P : State → Prop) (l : List (Fin n)) {s : State}
    (h0 : P s) (hstep : ∀ i ∈ l, ∀ t, P t → P (f i t)) : P (l.foldl (fun s j => f j s) s) := by
  induction l generalizing s with
  | nil => exact h0
  | cons i l ih => exact ih (hstep i (by simp) s h0) fun j hj => hstep j (by simp [hj])

end Machine

end Sys2Proof
end

