-- ==== Sys2Proof/Laws/Flags.lean ====
section
/-! SUPPORT. What raising a source, adding and removing a mute cause, and evaluating a monitor can do. -/

namespace Sys2Proof.Machine

open Sys2Proof

/-! ### `raiseOn` -/

@[simp] theorem raiseOn_tb (p : Port) (src : Source) (s : State) : (raiseOn p src s).tb = s.tb := rfl
@[simp] theorem raiseOn_tod (p : Port) (src : Source) (s : State) : (raiseOn p src s).tod = s.tod := rfl
@[simp] theorem raiseOn_feeds (p : Port) (src : Source) (s : State) : (raiseOn p src s).feeds = s.feeds := rfl
@[simp] theorem raiseOn_merge (p : Port) (src : Source) (s : State) : (raiseOn p src s).merge = s.merge := rfl
@[simp] theorem raiseOn_store (p : Port) (src : Source) (s : State) : (raiseOn p src s).store = s.store := rfl
@[simp] theorem raiseOn_output (p : Port) (src : Source) (s : State) : (raiseOn p src s).output = s.output := rfl
@[simp] theorem raiseOn_breaks (p : Port) (src : Source) (s : State) : (raiseOn p src s).breaks = s.breaks := rfl
@[simp] theorem raiseOn_link (p : Port) (src : Source) (s : State) : (raiseOn p src s).link = s.link := rfl
@[simp] theorem raiseOn_memory (p : Port) (src : Source) (s : State) : (raiseOn p src s).memory = s.memory := rfl
@[simp] theorem raiseOn_splice (p : Port) (src : Source) (s : State) : (raiseOn p src s).splice = s.splice := rfl
@[simp] theorem raiseOn_monitors (p : Port) (src : Source) (s : State) : (raiseOn p src s).monitors = s.monitors := rfl
@[simp] theorem raiseOn_direction (p : Port) (src : Source) (s : State) : (raiseOn p src s).direction = s.direction := rfl
@[simp] theorem raiseOn_settings (p : Port) (src : Source) (s : State) : (raiseOn p src s).settings = s.settings := rfl
@[simp] theorem raiseOn_ports (p : Port) (src : Source) (s : State) : (raiseOn p src s).ports = s.ports := rfl
@[simp] theorem raiseOn_lines (p : Port) (src : Source) (s : State) : (raiseOn p src s).lines = s.lines := rfl
@[simp] theorem raiseOn_freeCount (p : Port) (src : Source) (s : State) : (raiseOn p src s).freeCount = s.freeCount := rfl
@[simp] theorem raiseOn_pending (p : Port) (src : Source) (s : State) : (raiseOn p src s).pending = s.pending := rfl

/-! ### `raise` -/

@[simp] theorem raise_tb (src : Source) (s : State) : (raise src s).tb = s.tb := rfl
@[simp] theorem raise_tod (src : Source) (s : State) : (raise src s).tod = s.tod := rfl
@[simp] theorem raise_feeds (src : Source) (s : State) : (raise src s).feeds = s.feeds := rfl
@[simp] theorem raise_merge (src : Source) (s : State) : (raise src s).merge = s.merge := rfl
@[simp] theorem raise_store (src : Source) (s : State) : (raise src s).store = s.store := rfl
@[simp] theorem raise_output (src : Source) (s : State) : (raise src s).output = s.output := rfl
@[simp] theorem raise_breaks (src : Source) (s : State) : (raise src s).breaks = s.breaks := rfl
@[simp] theorem raise_link (src : Source) (s : State) : (raise src s).link = s.link := rfl
@[simp] theorem raise_memory (src : Source) (s : State) : (raise src s).memory = s.memory := rfl
@[simp] theorem raise_splice (src : Source) (s : State) : (raise src s).splice = s.splice := rfl
@[simp] theorem raise_monitors (src : Source) (s : State) : (raise src s).monitors = s.monitors := rfl
@[simp] theorem raise_direction (src : Source) (s : State) : (raise src s).direction = s.direction := rfl
@[simp] theorem raise_settings (src : Source) (s : State) : (raise src s).settings = s.settings := rfl
@[simp] theorem raise_ports (src : Source) (s : State) : (raise src s).ports = s.ports := rfl
@[simp] theorem raise_lines (src : Source) (s : State) : (raise src s).lines = s.lines := rfl
@[simp] theorem raise_freeCount (src : Source) (s : State) : (raise src s).freeCount = s.freeCount := rfl
@[simp] theorem raise_pending (src : Source) (s : State) : (raise src s).pending = s.pending := rfl

/-! ### Pending marks -/

theorem raiseOn_marks (p q : Port) (src x : Source) (s : State) :
    (portOf (raiseOn p src s).alerts.ports q).marks.get x =
      ((portOf s.alerts.ports q).marks.get x || (q == p && x == src)) := by
  cases p <;> cases q <;> by_cases h : x = src <;>
    simp [raiseOn, State.setAlerts, portOf, setPortOf, Tab.get_set, h]

@[simp] theorem raise_marks (p : Port) (src x : Source) (s : State) :
    (portOf (raise src s).alerts.ports p).marks.get x =
      ((portOf s.alerts.ports p).marks.get x || x == src) := by
  have : (Port.b == Port.a) = false := rfl
  have : (Port.a == Port.b) = false := rfl
  cases p <;> simp [raise, raiseOn_marks, *]

@[simp] theorem raiseOn_enables (p q : Port) (src : Source) (s : State) :
    (portOf (raiseOn p src s).alerts.ports q).enables = (portOf s.alerts.ports q).enables := by
  cases p <;> cases q <;> rfl

@[simp] theorem raiseOn_mask (p q : Port) (src : Source) (s : State) :
    (portOf (raiseOn p src s).alerts.ports q).mask = (portOf s.alerts.ports q).mask := by
  cases p <;> cases q <;> rfl

@[simp] theorem raise_enables (q : Port) (src : Source) (s : State) :
    (portOf (raise src s).alerts.ports q).enables = (portOf s.alerts.ports q).enables := by
  cases q <;> rfl

@[simp] theorem raise_mask (q : Port) (src : Source) (s : State) :
    (portOf (raise src s).alerts.ports q).mask = (portOf s.alerts.ports q).mask := by
  cases q <;> rfl

@[simp] theorem raiseOn_priority (p : Port) (src : Source) (s : State) :
    (raiseOn p src s).alerts.priority = s.alerts.priority := rfl

@[simp] theorem raise_priority (src : Source) (s : State) : (raise src s).alerts.priority = s.alerts.priority := rfl

/-- What is raised depends on the alerts alone. -/
theorem raise_alerts_congr {src : Source} {s t : State} (h : s.alerts = t.alerts) :
    (raise src s).alerts = (raise src t).alerts := by
  simp [raise, raiseOn, State.setAlerts, h]

theorem raiseOn_alerts_congr {p : Port} {src : Source} {s t : State} (h : s.alerts = t.alerts) :
    (raiseOn p src s).alerts = (raiseOn p src t).alerts := by
  simp [raiseOn, State.setAlerts, h]

theorem raisedOnly_refl (l : List Source) (s : State) : raisedOnly l s s :=
  ⟨rfl, fun _ => ⟨rfl, rfl, fun _ => ⟨fun _ => rfl, id⟩⟩⟩

theorem raisedOnly_trans {l : List Source} {s t u : State} (h : raisedOnly l s t) (g : raisedOnly l t u) :
    raisedOnly l s u :=
  ⟨g.1.trans h.1, fun p => ⟨(g.2 p).1.trans (h.2 p).1, (g.2 p).2.1.trans (h.2 p).2.1, fun x =>
    ⟨fun hx => (((g.2 p).2.2 x).1 hx).trans (((h.2 p).2.2 x).1 hx), fun hx => ((g.2 p).2.2 x).2 (((h.2 p).2.2 x).2 hx)⟩⟩⟩

theorem raisedOnly_mono {l m : List Source} (hl : ∀ x ∈ l, x ∈ m) {s t : State} (h : raisedOnly l s t) :
    raisedOnly m s t :=
  ⟨h.1, fun p => ⟨(h.2 p).1, (h.2 p).2.1, fun x => ⟨fun hx => ((h.2 p).2.2 x).1 fun hm => hx (hl x hm), ((h.2 p).2.2 x).2⟩⟩⟩

theorem raisedOnly_raise {l : List Source} {src : Source} (h : src ∈ l) (s : State) : raisedOnly l s (raise src s) := by
  refine ⟨rfl, fun p => ⟨by simp, by simp, fun x => ⟨fun hx => ?_, fun hx => by simp [hx]⟩⟩⟩
  have : x ≠ src := fun e => hx (e ▸ h)
  simp [this]

theorem raisedOnly_raiseOn {l : List Source} {src : Source} (h : src ∈ l) (p : Port) (s : State) :
    raisedOnly l s (raiseOn p src s) := by
  refine ⟨rfl, fun q => ⟨by simp, by simp, fun x => ⟨fun hx => ?_, fun hx => by simp [raiseOn_marks, hx]⟩⟩⟩
  have : x ≠ src := fun e => hx (e ▸ h)
  simp [raiseOn_marks, this]

/-- Only the alerts matter. -/
theorem raisedOnly_of_alerts {l : List Source} {s t : State} (h : t.alerts = s.alerts) : raisedOnly l s t := by
  simp [raisedOnly, h]

/-! ### `setMonRec` -/

@[simp] theorem setMonRec_tb (m : MonNo) (r : MonitorRec) (s : State) : (setMonRec m r s).tb = s.tb := rfl
@[simp] theorem setMonRec_tod (m : MonNo) (r : MonitorRec) (s : State) : (setMonRec m r s).tod = s.tod := rfl
@[simp] theorem setMonRec_feeds (m : MonNo) (r : MonitorRec) (s : State) : (setMonRec m r s).feeds = s.feeds := rfl
@[simp] theorem setMonRec_merge (m : MonNo) (r : MonitorRec) (s : State) : (setMonRec m r s).merge = s.merge := rfl
@[simp] theorem setMonRec_store (m : MonNo) (r : MonitorRec) (s : State) : (setMonRec m r s).store = s.store := rfl
@[simp] theorem setMonRec_output (m : MonNo) (r : MonitorRec) (s : State) : (setMonRec m r s).output = s.output := rfl
@[simp] theorem setMonRec_breaks (m : MonNo) (r : MonitorRec) (s : State) : (setMonRec m r s).breaks = s.breaks := rfl
@[simp] theorem setMonRec_link (m : MonNo) (r : MonitorRec) (s : State) : (setMonRec m r s).link = s.link := rfl
@[simp] theorem setMonRec_memory (m : MonNo) (r : MonitorRec) (s : State) : (setMonRec m r s).memory = s.memory := rfl
@[simp] theorem setMonRec_splice (m : MonNo) (r : MonitorRec) (s : State) : (setMonRec m r s).splice = s.splice := rfl
@[simp] theorem setMonRec_direction (m : MonNo) (r : MonitorRec) (s : State) : (setMonRec m r s).direction = s.direction := rfl
@[simp] theorem setMonRec_settings (m : MonNo) (r : MonitorRec) (s : State) : (setMonRec m r s).settings = s.settings := rfl
@[simp] theorem setMonRec_alerts (m : MonNo) (r : MonitorRec) (s : State) : (setMonRec m r s).alerts = s.alerts := rfl
@[simp] theorem setMonRec_ports (m : MonNo) (r : MonitorRec) (s : State) : (setMonRec m r s).ports = s.ports := rfl
@[simp] theorem setMonRec_lines (m : MonNo) (r : MonitorRec) (s : State) : (setMonRec m r s).lines = s.lines := rfl
@[simp] theorem setMonRec_freeCount (m : MonNo) (r : MonitorRec) (s : State) : (setMonRec m r s).freeCount = s.freeCount := rfl
@[simp] theorem setMonRec_pending (m : MonNo) (r : MonitorRec) (s : State) : (setMonRec m r s).pending = s.pending := rfl


theorem monRec_setMonRec (m k : MonNo) (r : MonitorRec) (s : State) :
    monRec (setMonRec m r s) k = if k = m then r else monRec s k := by
  simp [monRec, setMonRec, State.setMonitors, Tab.get_set]

@[simp] theorem monRec_setMonRec_self (m : MonNo) (r : MonitorRec) (s : State) : monRec (setMonRec m r s) m = r := by
  simp [monRec_setMonRec]

@[simp] theorem monRec_raise (src : Source) (s : State) (k : MonNo) : monRec (raise src s) k = monRec s k := rfl
@[simp] theorem monRec_raiseOn (p : Port) (src : Source) (s : State) (k : MonNo) : monRec (raiseOn p src s) k = monRec s k := rfl
@[simp] theorem monSetting_setMonRec (m k : MonNo) (r : MonitorRec) (s : State) :
    monSetting (setMonRec m r s) k = monSetting s k := rfl
@[simp] theorem monSetting_raise (src : Source) (s : State) (k : MonNo) :
    monSetting (raise src s) k = monSetting s k := rfl

/-! ### `recordFirst` -/

@[simp] theorem recordFirst_tb (m : MonNo) (s : State) : (recordFirst m s).tb = s.tb := by unfold recordFirst; split <;> rfl
@[simp] theorem recordFirst_tod (m : MonNo) (s : State) : (recordFirst m s).tod = s.tod := by unfold recordFirst; split <;> rfl
@[simp] theorem recordFirst_feeds (m : MonNo) (s : State) : (recordFirst m s).feeds = s.feeds := by unfold recordFirst; split <;> rfl
@[simp] theorem recordFirst_merge (m : MonNo) (s : State) : (recordFirst m s).merge = s.merge := by unfold recordFirst; split <;> rfl
@[simp] theorem recordFirst_store (m : MonNo) (s : State) : (recordFirst m s).store = s.store := by unfold recordFirst; split <;> rfl
@[simp] theorem recordFirst_output (m : MonNo) (s : State) : (recordFirst m s).output = s.output := by unfold recordFirst; split <;> rfl
@[simp] theorem recordFirst_breaks (m : MonNo) (s : State) : (recordFirst m s).breaks = s.breaks := by unfold recordFirst; split <;> rfl
@[simp] theorem recordFirst_link (m : MonNo) (s : State) : (recordFirst m s).link = s.link := by unfold recordFirst; split <;> rfl
@[simp] theorem recordFirst_memory (m : MonNo) (s : State) : (recordFirst m s).memory = s.memory := by unfold recordFirst; split <;> rfl
@[simp] theorem recordFirst_splice (m : MonNo) (s : State) : (recordFirst m s).splice = s.splice := by unfold recordFirst; split <;> rfl
@[simp] theorem recordFirst_direction (m : MonNo) (s : State) : (recordFirst m s).direction = s.direction := by unfold recordFirst; split <;> rfl
@[simp] theorem recordFirst_settings (m : MonNo) (s : State) : (recordFirst m s).settings = s.settings := by unfold recordFirst; split <;> rfl
@[simp] theorem recordFirst_alerts (m : MonNo) (s : State) : (recordFirst m s).alerts = s.alerts := by unfold recordFirst; split <;> rfl
@[simp] theorem recordFirst_ports (m : MonNo) (s : State) : (recordFirst m s).ports = s.ports := by unfold recordFirst; split <;> rfl
@[simp] theorem recordFirst_lines (m : MonNo) (s : State) : (recordFirst m s).lines = s.lines := by unfold recordFirst; split <;> rfl
@[simp] theorem recordFirst_freeCount (m : MonNo) (s : State) : (recordFirst m s).freeCount = s.freeCount := by unfold recordFirst; split <;> rfl
@[simp] theorem recordFirst_pending (m : MonNo) (s : State) : (recordFirst m s).pending = s.pending := by unfold recordFirst; split <;> rfl


@[simp] theorem monRec_recordFirst (m k : MonNo) (s : State) : monRec (recordFirst m s) k = monRec s k := by
  unfold recordFirst; split <;> rfl

/-! ### `setLatched` -/

@[simp] theorem setLatched_tb (m : MonNo) (s : State) : (setLatched m s).tb = s.tb := by unfold setLatched; split <;> simp
@[simp] theorem setLatched_tod (m : MonNo) (s : State) : (setLatched m s).tod = s.tod := by unfold setLatched; split <;> simp
@[simp] theorem setLatched_feeds (m : MonNo) (s : State) : (setLatched m s).feeds = s.feeds := by unfold setLatched; split <;> simp
@[simp] theorem setLatched_merge (m : MonNo) (s : State) : (setLatched m s).merge = s.merge := by unfold setLatched; split <;> simp
@[simp] theorem setLatched_store (m : MonNo) (s : State) : (setLatched m s).store = s.store := by unfold setLatched; split <;> simp
@[simp] theorem setLatched_output (m : MonNo) (s : State) : (setLatched m s).output = s.output := by unfold setLatched; split <;> simp
@[simp] theorem setLatched_breaks (m : MonNo) (s : State) : (setLatched m s).breaks = s.breaks := by unfold setLatched; split <;> simp
@[simp] theorem setLatched_link (m : MonNo) (s : State) : (setLatched m s).link = s.link := by unfold setLatched; split <;> simp
@[simp] theorem setLatched_memory (m : MonNo) (s : State) : (setLatched m s).memory = s.memory := by unfold setLatched; split <;> simp
@[simp] theorem setLatched_splice (m : MonNo) (s : State) : (setLatched m s).splice = s.splice := by unfold setLatched; split <;> simp
@[simp] theorem setLatched_direction (m : MonNo) (s : State) : (setLatched m s).direction = s.direction := by unfold setLatched; split <;> simp
@[simp] theorem setLatched_settings (m : MonNo) (s : State) : (setLatched m s).settings = s.settings := by unfold setLatched; split <;> simp
@[simp] theorem setLatched_ports (m : MonNo) (s : State) : (setLatched m s).ports = s.ports := by unfold setLatched; split <;> simp
@[simp] theorem setLatched_lines (m : MonNo) (s : State) : (setLatched m s).lines = s.lines := by unfold setLatched; split <;> simp
@[simp] theorem setLatched_freeCount (m : MonNo) (s : State) : (setLatched m s).freeCount = s.freeCount := by unfold setLatched; split <;> simp
@[simp] theorem setLatched_pending (m : MonNo) (s : State) : (setLatched m s).pending = s.pending := by unfold setLatched; split <;> simp

/-! ### `setWarning` -/

@[simp] theorem setWarning_tb (m : MonNo) (s : State) : (setWarning m s).tb = s.tb := by unfold setWarning; split <;> simp
@[simp] theorem setWarning_tod (m : MonNo) (s : State) : (setWarning m s).tod = s.tod := by unfold setWarning; split <;> simp
@[simp] theorem setWarning_feeds (m : MonNo) (s : State) : (setWarning m s).feeds = s.feeds := by unfold setWarning; split <;> simp
@[simp] theorem setWarning_merge (m : MonNo) (s : State) : (setWarning m s).merge = s.merge := by unfold setWarning; split <;> simp
@[simp] theorem setWarning_store (m : MonNo) (s : State) : (setWarning m s).store = s.store := by unfold setWarning; split <;> simp
@[simp] theorem setWarning_output (m : MonNo) (s : State) : (setWarning m s).output = s.output := by unfold setWarning; split <;> simp
@[simp] theorem setWarning_breaks (m : MonNo) (s : State) : (setWarning m s).breaks = s.breaks := by unfold setWarning; split <;> simp
@[simp] theorem setWarning_link (m : MonNo) (s : State) : (setWarning m s).link = s.link := by unfold setWarning; split <;> simp
@[simp] theorem setWarning_memory (m : MonNo) (s : State) : (setWarning m s).memory = s.memory := by unfold setWarning; split <;> simp
@[simp] theorem setWarning_splice (m : MonNo) (s : State) : (setWarning m s).splice = s.splice := by unfold setWarning; split <;> simp
@[simp] theorem setWarning_direction (m : MonNo) (s : State) : (setWarning m s).direction = s.direction := by unfold setWarning; split <;> simp
@[simp] theorem setWarning_settings (m : MonNo) (s : State) : (setWarning m s).settings = s.settings := by unfold setWarning; split <;> simp
@[simp] theorem setWarning_ports (m : MonNo) (s : State) : (setWarning m s).ports = s.ports := by unfold setWarning; split <;> simp
@[simp] theorem setWarning_lines (m : MonNo) (s : State) : (setWarning m s).lines = s.lines := by unfold setWarning; split <;> simp
@[simp] theorem setWarning_freeCount (m : MonNo) (s : State) : (setWarning m s).freeCount = s.freeCount := by unfold setWarning; split <;> simp
@[simp] theorem setWarning_pending (m : MonNo) (s : State) : (setWarning m s).pending = s.pending := by unfold setWarning; split <;> simp

/-! ### `activate` -/

@[simp] theorem activate_tb (m : MonNo) (s : State) : (activate m s).tb = s.tb := by unfold activate; split <;> simp
@[simp] theorem activate_tod (m : MonNo) (s : State) : (activate m s).tod = s.tod := by unfold activate; split <;> simp
@[simp] theorem activate_feeds (m : MonNo) (s : State) : (activate m s).feeds = s.feeds := by unfold activate; split <;> simp
@[simp] theorem activate_merge (m : MonNo) (s : State) : (activate m s).merge = s.merge := by unfold activate; split <;> simp
@[simp] theorem activate_store (m : MonNo) (s : State) : (activate m s).store = s.store := by unfold activate; split <;> simp
@[simp] theorem activate_output (m : MonNo) (s : State) : (activate m s).output = s.output := by unfold activate; split <;> simp
@[simp] theorem activate_breaks (m : MonNo) (s : State) : (activate m s).breaks = s.breaks := by unfold activate; split <;> simp
@[simp] theorem activate_link (m : MonNo) (s : State) : (activate m s).link = s.link := by unfold activate; split <;> simp
@[simp] theorem activate_memory (m : MonNo) (s : State) : (activate m s).memory = s.memory := by unfold activate; split <;> simp
@[simp] theorem activate_splice (m : MonNo) (s : State) : (activate m s).splice = s.splice := by unfold activate; split <;> simp
@[simp] theorem activate_direction (m : MonNo) (s : State) : (activate m s).direction = s.direction := by unfold activate; split <;> simp
@[simp] theorem activate_settings (m : MonNo) (s : State) : (activate m s).settings = s.settings := by unfold activate; split <;> simp
@[simp] theorem activate_ports (m : MonNo) (s : State) : (activate m s).ports = s.ports := by unfold activate; split <;> simp
@[simp] theorem activate_lines (m : MonNo) (s : State) : (activate m s).lines = s.lines := by unfold activate; split <;> simp
@[simp] theorem activate_freeCount (m : MonNo) (s : State) : (activate m s).freeCount = s.freeCount := by unfold activate; split <;> simp
@[simp] theorem activate_pending (m : MonNo) (s : State) : (activate m s).pending = s.pending := by unfold activate; split <;> simp


theorem monRec_setLatched (m k : MonNo) (s : State) :
    monRec (setLatched m s) k = if k = m then { monRec s m with latched := true } else monRec s k := by
  unfold setLatched
  split
  · next h => by_cases hk : k = m
              · subst hk; rw [if_pos rfl]; cases hr : monRec s k; simp_all
              · simp [hk]
  · simp [monRec_setMonRec]

theorem monRec_setWarning (m k : MonNo) (s : State) :
    monRec (setWarning m s) k = if k = m then { monRec s m with warning := true } else monRec s k := by
  unfold setWarning
  split
  · next h => by_cases hk : k = m
              · subst hk; rw [if_pos rfl]; cases hr : monRec s k; simp_all
              · simp [hk]
  · simp [monRec_setMonRec]

/-- R154: what an activation does to the items of every monitor. -/
theorem monRec_activate (m k : MonNo) (s : State) :
    monRec (activate m s) k = if k = m then
      { monRec s m with
        latched := (monRec s m).latched || decide ((monSetting s m).mode = .latch)
        warning := (monRec s m).warning || decide ((monSetting s m).mode = .frame) || decide ((monSetting s m).mode = .warn) }
    else monRec s k := by
  unfold activate
  cases h : (monSetting s m).mode <;> by_cases hk : k = m <;>
    simp [monRec_setLatched, monRec_setWarning, hk]

theorem raisedOnly_recordFirst (l : List Source) (m : MonNo) (s : State) : raisedOnly l s (recordFirst m s) :=
  raisedOnly_of_alerts (by simp)

theorem raisedOnly_setMonRec (l : List Source) (m : MonNo) (r : MonitorRec) (s : State) :
    raisedOnly l s (setMonRec m r s) := raisedOnly_of_alerts rfl

theorem raisedOnly_activate (m : MonNo) (s : State) : raisedOnly [srcFault, srcWarning] s (activate m s) := by
  have hl : raisedOnly [srcFault, srcWarning] s (setLatched m s) := by
    unfold setLatched
    split
    · exact raisedOnly_refl _ _
    · exact raisedOnly_trans (raisedOnly_setMonRec _ m _ s)
        (raisedOnly_trans (raisedOnly_raise (by simp) _) (raisedOnly_recordFirst _ _ _))
  have hw : raisedOnly [srcFault, srcWarning] s (setWarning m s) := by
    unfold setWarning
    split
    · exact raisedOnly_refl _ _
    · exact raisedOnly_trans (raisedOnly_setMonRec _ m _ s) (raisedOnly_raise (by simp) _)
  unfold activate
  split <;> first | exact hl | exact hw | exact raisedOnly_refl _ _

/-! ### `muteAtOnce` -/

@[simp] theorem muteAtOnce_tb (s : State) : (muteAtOnce s).tb = s.tb := rfl
@[simp] theorem muteAtOnce_tod (s : State) : (muteAtOnce s).tod = s.tod := rfl
@[simp] theorem muteAtOnce_feeds (s : State) : (muteAtOnce s).feeds = s.feeds := rfl
@[simp] theorem muteAtOnce_merge (s : State) : (muteAtOnce s).merge = s.merge := rfl
@[simp] theorem muteAtOnce_store (s : State) : (muteAtOnce s).store = s.store := rfl
@[simp] theorem muteAtOnce_breaks (s : State) : (muteAtOnce s).breaks = s.breaks := rfl
@[simp] theorem muteAtOnce_link (s : State) : (muteAtOnce s).link = s.link := rfl
@[simp] theorem muteAtOnce_memory (s : State) : (muteAtOnce s).memory = s.memory := rfl
@[simp] theorem muteAtOnce_splice (s : State) : (muteAtOnce s).splice = s.splice := rfl
@[simp] theorem muteAtOnce_monitors (s : State) : (muteAtOnce s).monitors = s.monitors := rfl
@[simp] theorem muteAtOnce_direction (s : State) : (muteAtOnce s).direction = s.direction := rfl
@[simp] theorem muteAtOnce_settings (s : State) : (muteAtOnce s).settings = s.settings := rfl
@[simp] theorem muteAtOnce_ports (s : State) : (muteAtOnce s).ports = s.ports := rfl
@[simp] theorem muteAtOnce_lines (s : State) : (muteAtOnce s).lines = s.lines := rfl
@[simp] theorem muteAtOnce_freeCount (s : State) : (muteAtOnce s).freeCount = s.freeCount := rfl
@[simp] theorem muteAtOnce_pending (s : State) : (muteAtOnce s).pending = s.pending := rfl


/-- R80, R88: a mute leaves the output Muted with the mute line asserted. -/
@[simp] theorem muteAtOnce_output (s : State) :
    (muteAtOnce s).output = { s.output with state := .muted, muteLine := true, muteAt := none } := rfl

@[simp] theorem muteAtOnce_alerts (s : State) : (muteAtOnce s).alerts = (raise srcMuted (raise srcOutput s)).alerts := rfl

/-! ### `addCause` -/

@[simp] theorem addCause_tb (c : Cause) (s : State) : (addCause c s).tb = s.tb := by unfold addCause; split <;> (try split) <;> simp
@[simp] theorem addCause_tod (c : Cause) (s : State) : (addCause c s).tod = s.tod := by unfold addCause; split <;> (try split) <;> simp
@[simp] theorem addCause_feeds (c : Cause) (s : State) : (addCause c s).feeds = s.feeds := by unfold addCause; split <;> (try split) <;> simp
@[simp] theorem addCause_merge (c : Cause) (s : State) : (addCause c s).merge = s.merge := by unfold addCause; split <;> (try split) <;> simp
@[simp] theorem addCause_store (c : Cause) (s : State) : (addCause c s).store = s.store := by unfold addCause; split <;> (try split) <;> simp
@[simp] theorem addCause_breaks (c : Cause) (s : State) : (addCause c s).breaks = s.breaks := by unfold addCause; split <;> (try split) <;> simp
@[simp] theorem addCause_link (c : Cause) (s : State) : (addCause c s).link = s.link := by unfold addCause; split <;> (try split) <;> simp
@[simp] theorem addCause_memory (c : Cause) (s : State) : (addCause c s).memory = s.memory := by unfold addCause; split <;> (try split) <;> simp
@[simp] theorem addCause_splice (c : Cause) (s : State) : (addCause c s).splice = s.splice := by unfold addCause; split <;> (try split) <;> simp
@[simp] theorem addCause_monitors (c : Cause) (s : State) : (addCause c s).monitors = s.monitors := by unfold addCause; split <;> (try split) <;> simp
@[simp] theorem addCause_direction (c : Cause) (s : State) : (addCause c s).direction = s.direction := by unfold addCause; split <;> (try split) <;> simp
@[simp] theorem addCause_settings (c : Cause) (s : State) : (addCause c s).settings = s.settings := by unfold addCause; split <;> (try split) <;> simp
@[simp] theorem addCause_ports (c : Cause) (s : State) : (addCause c s).ports = s.ports := by unfold addCause; split <;> (try split) <;> simp
@[simp] theorem addCause_lines (c : Cause) (s : State) : (addCause c s).lines = s.lines := by unfold addCause; split <;> (try split) <;> simp
@[simp] theorem addCause_freeCount (c : Cause) (s : State) : (addCause c s).freeCount = s.freeCount := by unfold addCause; split <;> (try split) <;> simp
@[simp] theorem addCause_pending (c : Cause) (s : State) : (addCause c s).pending = s.pending := by unfold addCause; split <;> (try split) <;> simp

/-! ### `removeCause` -/

@[simp] theorem removeCause_tb (c : Cause) (s : State) : (removeCause c s).tb = s.tb := rfl
@[simp] theorem removeCause_tod (c : Cause) (s : State) : (removeCause c s).tod = s.tod := rfl
@[simp] theorem removeCause_feeds (c : Cause) (s : State) : (removeCause c s).feeds = s.feeds := rfl
@[simp] theorem removeCause_merge (c : Cause) (s : State) : (removeCause c s).merge = s.merge := rfl
@[simp] theorem removeCause_store (c : Cause) (s : State) : (removeCause c s).store = s.store := rfl
@[simp] theorem removeCause_breaks (c : Cause) (s : State) : (removeCause c s).breaks = s.breaks := rfl
@[simp] theorem removeCause_link (c : Cause) (s : State) : (removeCause c s).link = s.link := rfl
@[simp] theorem removeCause_memory (c : Cause) (s : State) : (removeCause c s).memory = s.memory := rfl
@[simp] theorem removeCause_splice (c : Cause) (s : State) : (removeCause c s).splice = s.splice := rfl
@[simp] theorem removeCause_monitors (c : Cause) (s : State) : (removeCause c s).monitors = s.monitors := rfl
@[simp] theorem removeCause_direction (c : Cause) (s : State) : (removeCause c s).direction = s.direction := rfl
@[simp] theorem removeCause_settings (c : Cause) (s : State) : (removeCause c s).settings = s.settings := rfl
@[simp] theorem removeCause_alerts (c : Cause) (s : State) : (removeCause c s).alerts = s.alerts := rfl
@[simp] theorem removeCause_ports (c : Cause) (s : State) : (removeCause c s).ports = s.ports := rfl
@[simp] theorem removeCause_lines (c : Cause) (s : State) : (removeCause c s).lines = s.lines := rfl
@[simp] theorem removeCause_freeCount (c : Cause) (s : State) : (removeCause c s).freeCount = s.freeCount := rfl
@[simp] theorem removeCause_pending (c : Cause) (s : State) : (removeCause c s).pending = s.pending := rfl


@[simp] theorem removeCause_output (c : Cause) (s : State) :
    (removeCause c s).output = { s.output with causes := putCause s.output.causes c false } := rfl

/-- R80: what adding a cause does to the output. -/
theorem addCause_output (c : Cause) (s : State) :
    (addCause c s).output =
      if hasCause s.output.causes c = false ∧ s.output.state = .running then
        { s.output with causes := putCause s.output.causes c true, state := .muted, muteLine := true, muteAt := none }
      else { s.output with causes := putCause s.output.causes c true } := by
  unfold addCause
  have : hasCause s.output.causes c = true → putCause s.output.causes c true = s.output.causes := by
    intro h
    rcases hc : s.output.causes with ⟨a, b, d⟩
    cases c <;> simp_all [hasCause, putCause]
  by_cases h : hasCause s.output.causes c = true
  · simp [h, this h]
  · by_cases hr : s.output.state = .running <;> simp [h, hr]

theorem raisedOnly_addCause (c : Cause) (s : State) : raisedOnly [srcOutput, srcMuted] s (addCause c s) := by
  unfold addCause
  split
  · exact raisedOnly_refl _ _
  · split
    · exact raisedOnly_trans (t := raise srcOutput _) (raisedOnly_raise (by simp) s)
        (raisedOnly_raise (by simp) _)
    · exact raisedOnly_of_alerts rfl

theorem raisedOnly_removeCause (l : List Source) (c : Cause) (s : State) : raisedOnly l s (removeCause c s) :=
  raisedOnly_of_alerts rfl

/-! ### `syncFault` -/

@[simp] theorem syncFault_tb (s : State) : (syncFault s).tb = s.tb := by unfold syncFault; split <;> simp
@[simp] theorem syncFault_tod (s : State) : (syncFault s).tod = s.tod := by unfold syncFault; split <;> simp
@[simp] theorem syncFault_feeds (s : State) : (syncFault s).feeds = s.feeds := by unfold syncFault; split <;> simp
@[simp] theorem syncFault_merge (s : State) : (syncFault s).merge = s.merge := by unfold syncFault; split <;> simp
@[simp] theorem syncFault_store (s : State) : (syncFault s).store = s.store := by unfold syncFault; split <;> simp
@[simp] theorem syncFault_breaks (s : State) : (syncFault s).breaks = s.breaks := by unfold syncFault; split <;> simp
@[simp] theorem syncFault_link (s : State) : (syncFault s).link = s.link := by unfold syncFault; split <;> simp
@[simp] theorem syncFault_memory (s : State) : (syncFault s).memory = s.memory := by unfold syncFault; split <;> simp
@[simp] theorem syncFault_splice (s : State) : (syncFault s).splice = s.splice := by unfold syncFault; split <;> simp
@[simp] theorem syncFault_monitors (s : State) : (syncFault s).monitors = s.monitors := by unfold syncFault; split <;> simp
@[simp] theorem syncFault_direction (s : State) : (syncFault s).direction = s.direction := by unfold syncFault; split <;> simp
@[simp] theorem syncFault_settings (s : State) : (syncFault s).settings = s.settings := by unfold syncFault; split <;> simp
@[simp] theorem syncFault_ports (s : State) : (syncFault s).ports = s.ports := by unfold syncFault; split <;> simp
@[simp] theorem syncFault_lines (s : State) : (syncFault s).lines = s.lines := by unfold syncFault; split <;> simp
@[simp] theorem syncFault_freeCount (s : State) : (syncFault s).freeCount = s.freeCount := by unfold syncFault; split <;> simp
@[simp] theorem syncFault_pending (s : State) : (syncFault s).pending = s.pending := by unfold syncFault; split <;> simp

/-! ### `judgeMute` -/

@[simp] theorem judgeMute_tb (m : MonNo) (s : State) : (judgeMute m s).tb = s.tb := by unfold judgeMute; split <;> simp
@[simp] theorem judgeMute_tod (m : MonNo) (s : State) : (judgeMute m s).tod = s.tod := by unfold judgeMute; split <;> simp
@[simp] theorem judgeMute_feeds (m : MonNo) (s : State) : (judgeMute m s).feeds = s.feeds := by unfold judgeMute; split <;> simp
@[simp] theorem judgeMute_merge (m : MonNo) (s : State) : (judgeMute m s).merge = s.merge := by unfold judgeMute; split <;> simp
@[simp] theorem judgeMute_store (m : MonNo) (s : State) : (judgeMute m s).store = s.store := by unfold judgeMute; split <;> simp
@[simp] theorem judgeMute_breaks (m : MonNo) (s : State) : (judgeMute m s).breaks = s.breaks := by unfold judgeMute; split <;> simp
@[simp] theorem judgeMute_link (m : MonNo) (s : State) : (judgeMute m s).link = s.link := by unfold judgeMute; split <;> simp
@[simp] theorem judgeMute_memory (m : MonNo) (s : State) : (judgeMute m s).memory = s.memory := by unfold judgeMute; split <;> simp
@[simp] theorem judgeMute_splice (m : MonNo) (s : State) : (judgeMute m s).splice = s.splice := by unfold judgeMute; split <;> simp
@[simp] theorem judgeMute_monitors (m : MonNo) (s : State) : (judgeMute m s).monitors = s.monitors := by unfold judgeMute; split <;> simp
@[simp] theorem judgeMute_direction (m : MonNo) (s : State) : (judgeMute m s).direction = s.direction := by unfold judgeMute; split <;> simp
@[simp] theorem judgeMute_settings (m : MonNo) (s : State) : (judgeMute m s).settings = s.settings := by unfold judgeMute; split <;> simp
@[simp] theorem judgeMute_ports (m : MonNo) (s : State) : (judgeMute m s).ports = s.ports := by unfold judgeMute; split <;> simp
@[simp] theorem judgeMute_lines (m : MonNo) (s : State) : (judgeMute m s).lines = s.lines := by unfold judgeMute; split <;> simp
@[simp] theorem judgeMute_freeCount (m : MonNo) (s : State) : (judgeMute m s).freeCount = s.freeCount := by unfold judgeMute; split <;> simp
@[simp] theorem judgeMute_pending (m : MonNo) (s : State) : (judgeMute m s).pending = s.pending := by unfold judgeMute; split <;> simp


@[simp] theorem monRec_judgeMute (m k : MonNo) (s : State) : monRec (judgeMute m s) k = monRec s k := by
  simp [monRec]

@[simp] theorem monSetting_judgeMute (m k : MonNo) (s : State) : monSetting (judgeMute m s) k = monSetting s k := by
  simp [monSetting, State.profile]

theorem raisedOnly_judgeMute (m : MonNo) (s : State) : raisedOnly [srcOutput, srcMuted] s (judgeMute m s) := by
  unfold judgeMute syncFault
  split
  · split
    · exact raisedOnly_addCause _ _
    · exact raisedOnly_removeCause _ _ _
  · exact raisedOnly_refl _ _

/-- R156: a monitor other than M4 and M10 does not touch the mute causes. -/
theorem judgeMute_other {m : MonNo} (h : m ≠ mon4) (h' : m ≠ mon10) (s : State) : judgeMute m s = s := by
  simp [judgeMute, h, h']

/-! ### `evalCondition` -/

@[simp] theorem evalCondition_tb (m : MonNo) (a : Bool) (s : State) : (evalCondition m a s).tb = s.tb := by unfold evalCondition; dsimp only; split_ifs <;> simp
@[simp] theorem evalCondition_tod (m : MonNo) (a : Bool) (s : State) : (evalCondition m a s).tod = s.tod := by unfold evalCondition; dsimp only; split_ifs <;> simp
@[simp] theorem evalCondition_feeds (m : MonNo) (a : Bool) (s : State) : (evalCondition m a s).feeds = s.feeds := by unfold evalCondition; dsimp only; split_ifs <;> simp
@[simp] theorem evalCondition_merge (m : MonNo) (a : Bool) (s : State) : (evalCondition m a s).merge = s.merge := by unfold evalCondition; dsimp only; split_ifs <;> simp
@[simp] theorem evalCondition_store (m : MonNo) (a : Bool) (s : State) : (evalCondition m a s).store = s.store := by unfold evalCondition; dsimp only; split_ifs <;> simp
@[simp] theorem evalCondition_breaks (m : MonNo) (a : Bool) (s : State) : (evalCondition m a s).breaks = s.breaks := by unfold evalCondition; dsimp only; split_ifs <;> simp
@[simp] theorem evalCondition_link (m : MonNo) (a : Bool) (s : State) : (evalCondition m a s).link = s.link := by unfold evalCondition; dsimp only; split_ifs <;> simp
@[simp] theorem evalCondition_memory (m : MonNo) (a : Bool) (s : State) : (evalCondition m a s).memory = s.memory := by unfold evalCondition; dsimp only; split_ifs <;> simp
@[simp] theorem evalCondition_splice (m : MonNo) (a : Bool) (s : State) : (evalCondition m a s).splice = s.splice := by unfold evalCondition; dsimp only; split_ifs <;> simp
@[simp] theorem evalCondition_direction (m : MonNo) (a : Bool) (s : State) : (evalCondition m a s).direction = s.direction := by unfold evalCondition; dsimp only; split_ifs <;> simp
@[simp] theorem evalCondition_settings (m : MonNo) (a : Bool) (s : State) : (evalCondition m a s).settings = s.settings := by unfold evalCondition; dsimp only; split_ifs <;> simp
@[simp] theorem evalCondition_ports (m : MonNo) (a : Bool) (s : State) : (evalCondition m a s).ports = s.ports := by unfold evalCondition; dsimp only; split_ifs <;> simp
@[simp] theorem evalCondition_lines (m : MonNo) (a : Bool) (s : State) : (evalCondition m a s).lines = s.lines := by unfold evalCondition; dsimp only; split_ifs <;> simp
@[simp] theorem evalCondition_freeCount (m : MonNo) (a : Bool) (s : State) : (evalCondition m a s).freeCount = s.freeCount := by unfold evalCondition; dsimp only; split_ifs <;> simp
@[simp] theorem evalCondition_pending (m : MonNo) (a : Bool) (s : State) : (evalCondition m a s).pending = s.pending := by unfold evalCondition; dsimp only; split_ifs <;> simp

/-! ### `evalEvent` -/

@[simp] theorem evalEvent_tb (m : MonNo) (s : State) : (evalEvent m s).tb = s.tb := by unfold evalEvent; dsimp only; split_ifs <;> simp
@[simp] theorem evalEvent_tod (m : MonNo) (s : State) : (evalEvent m s).tod = s.tod := by unfold evalEvent; dsimp only; split_ifs <;> simp
@[simp] theorem evalEvent_feeds (m : MonNo) (s : State) : (evalEvent m s).feeds = s.feeds := by unfold evalEvent; dsimp only; split_ifs <;> simp
@[simp] theorem evalEvent_merge (m : MonNo) (s : State) : (evalEvent m s).merge = s.merge := by unfold evalEvent; dsimp only; split_ifs <;> simp
@[simp] theorem evalEvent_store (m : MonNo) (s : State) : (evalEvent m s).store = s.store := by unfold evalEvent; dsimp only; split_ifs <;> simp
@[simp] theorem evalEvent_output (m : MonNo) (s : State) : (evalEvent m s).output = s.output := by unfold evalEvent; dsimp only; split_ifs <;> simp
@[simp] theorem evalEvent_breaks (m : MonNo) (s : State) : (evalEvent m s).breaks = s.breaks := by unfold evalEvent; dsimp only; split_ifs <;> simp
@[simp] theorem evalEvent_link (m : MonNo) (s : State) : (evalEvent m s).link = s.link := by unfold evalEvent; dsimp only; split_ifs <;> simp
@[simp] theorem evalEvent_memory (m : MonNo) (s : State) : (evalEvent m s).memory = s.memory := by unfold evalEvent; dsimp only; split_ifs <;> simp
@[simp] theorem evalEvent_splice (m : MonNo) (s : State) : (evalEvent m s).splice = s.splice := by unfold evalEvent; dsimp only; split_ifs <;> simp
@[simp] theorem evalEvent_direction (m : MonNo) (s : State) : (evalEvent m s).direction = s.direction := by unfold evalEvent; dsimp only; split_ifs <;> simp
@[simp] theorem evalEvent_settings (m : MonNo) (s : State) : (evalEvent m s).settings = s.settings := by unfold evalEvent; dsimp only; split_ifs <;> simp
@[simp] theorem evalEvent_ports (m : MonNo) (s : State) : (evalEvent m s).ports = s.ports := by unfold evalEvent; dsimp only; split_ifs <;> simp
@[simp] theorem evalEvent_lines (m : MonNo) (s : State) : (evalEvent m s).lines = s.lines := by unfold evalEvent; dsimp only; split_ifs <;> simp
@[simp] theorem evalEvent_freeCount (m : MonNo) (s : State) : (evalEvent m s).freeCount = s.freeCount := by unfold evalEvent; dsimp only; split_ifs <;> simp
@[simp] theorem evalEvent_pending (m : MonNo) (s : State) : (evalEvent m s).pending = s.pending := by unfold evalEvent; dsimp only; split_ifs <;> simp


@[simp] theorem monSetting_evalCondition (m k : MonNo) (a : Bool) (s : State) :
    monSetting (evalCondition m a s) k = monSetting s k := by simp [monSetting, State.profile]

@[simp] theorem monSetting_evalEvent (m k : MonNo) (s : State) : monSetting (evalEvent m s) k = monSetting s k := by
  simp [monSetting, State.profile]

/-- An evaluation of a monitor other than M4 and M10 leaves the output. -/
theorem evalCondition_output_other {m : MonNo} (h : m ≠ mon4) (h' : m ≠ mon10) (a : Bool) (s : State) :
    (evalCondition m a s).output = s.output := by
  unfold evalCondition; dsimp only; split_ifs <;> simp [judgeMute_other h h']

/-- An evaluation leaves the items of the other monitors. -/
theorem monRec_evalCondition_other {m k : MonNo} (h : k ≠ m) (a : Bool) (s : State) :
    monRec (evalCondition m a s) k = monRec s k := by
  unfold evalCondition; dsimp only; split_ifs <;> simp [monRec_setMonRec, monRec_activate, h]

theorem monRec_evalEvent_other {m k : MonNo} (h : k ≠ m) (s : State) : monRec (evalEvent m s) k = monRec s k := by
  unfold evalEvent; dsimp only; split_ifs <;> simp [monRec_setMonRec, monRec_activate, h]

/-- R152: everything an evaluation does to the monitor evaluated. -/
theorem conditionTaken_evalCondition (m : MonNo) (a : Bool) (s : State) :
    conditionTaken m a s (evalCondition m a s) := by
  refine ⟨fun h => by simp [evalCondition, h], fun h ha => by simp [evalCondition, h, ha], fun h ha => ?_⟩
  subst ha
  refine ⟨fun hc => by simp [evalCondition, h, hc], fun hc hp => ?_, fun hc hp => ?_⟩
  · have : ¬ (monSetting s m).persistence ≤ min ((monRec s m).count + 1) (monSetting s m).persistence := by omega
    have e : min ((monRec s m).count + 1) (monSetting s m).persistence = (monRec s m).count + 1 := by omega
    rw [e] at this
    simp [evalCondition, h, hc, this, e]
  · have e : min ((monRec s m).count + 1) (monSetting s m).persistence = (monSetting s m).persistence := by omega
    simp only [evalCondition, h, hc, e, if_true, if_false, le_refl, Bool.false_eq_true]
    cases hm : (monSetting s m).mode <;> simp_all [monRec_activate]

/-- R153: everything an event does to the monitor evaluated. -/
theorem monRec_evalEvent (m : MonNo) (s : State) :
    monRec (evalEvent m s) m =
      if (monSetting s m).mode = .off then monRec s m
      else if (monSetting s m).persistence ≤ (monRec s m).count + 1 then
        { count     := 0
          condition := false
          latched   := (monRec s m).latched || decide ((monSetting s m).mode = .latch)
          warning   := (monRec s m).warning || decide ((monSetting s m).mode = .frame) || decide ((monSetting s m).mode = .warn)
          events    := satInc (monRec s m).events }
      else { monRec s m with
        count := (monRec s m).count + 1, condition := false, events := satInc (monRec s m).events } := by
  unfold evalEvent; dsimp only; split_ifs <;> simp [monRec_activate]
  exact ⟨rfl, rfl⟩

theorem eventCounted_evalEvent (m : MonNo) (s : State) : eventCounted m s (evalEvent m s) := by
  refine ⟨fun h => by simp [evalEvent, h], fun h => ?_⟩
  rw [monRec_evalEvent]
  split_ifs <;> first | rfl | contradiction

theorem othersKept_evalCondition {l : List MonNo} {m : MonNo} (h : m ∈ l) (a : Bool) (s : State) :
    othersKept l s (evalCondition m a s) :=
  fun k hk => monRec_evalCondition_other (fun e => hk (by rw [e]; exact h)) a s

theorem othersKept_evalEvent {l : List MonNo} {m : MonNo} (h : m ∈ l) (s : State) : othersKept l s (evalEvent m s) :=
  fun k hk => monRec_evalEvent_other (fun e => hk (by rw [e]; exact h)) s

theorem othersKept_trans {l : List MonNo} {s t u : State} (h : othersKept l s t) (g : othersKept l t u) :
    othersKept l s u := fun k hk => (g k hk).trans (h k hk)

theorem othersKept_of_monitors {l : List MonNo} {s t : State} (h : t.monitors = s.monitors) : othersKept l s t :=
  fun k _ => by simp [monRec, h]

theorem raisedOnly_evalEvent (m : MonNo) (s : State) : raisedOnly [srcFault, srcWarning] s (evalEvent m s) := by
  unfold evalEvent; dsimp only; split_ifs
  · exact raisedOnly_refl _ _
  · exact raisedOnly_trans (raisedOnly_setMonRec _ m _ s) (raisedOnly_activate _ _)
  · exact raisedOnly_setMonRec _ m _ s

theorem raisedOnly_evalCondition_other {m : MonNo} (h : m ≠ mon4) (h' : m ≠ mon10) (a : Bool) (s : State) :
    raisedOnly [srcFault, srcWarning] s (evalCondition m a s) := by
  unfold evalCondition; dsimp only; split_ifs
  · exact raisedOnly_refl _ _
  · exact raisedOnly_refl _ _
  · rw [judgeMute_other h h']
    exact raisedOnly_trans (raisedOnly_setMonRec _ m _ s) (raisedOnly_activate _ _)
  · exact raisedOnly_setMonRec _ m _ s
  · rw [judgeMute_other h h']; exact raisedOnly_setMonRec _ m _ s

theorem raisedOnly_evalCondition (m : MonNo) (a : Bool) (s : State) :
    raisedOnly [srcFault, srcWarning, srcOutput, srcMuted] s (evalCondition m a s) := by
  have hj : ∀ t, raisedOnly [srcFault, srcWarning, srcOutput, srcMuted] t (judgeMute m t) := fun t =>
    raisedOnly_mono (by simp) (raisedOnly_judgeMute m t)
  unfold evalCondition; dsimp only; split_ifs
  · exact raisedOnly_refl _ _
  · exact raisedOnly_refl _ _
  · exact raisedOnly_trans (raisedOnly_trans (raisedOnly_setMonRec _ m _ s)
      (raisedOnly_mono (by simp) (raisedOnly_activate _ _))) (hj _)
  · exact raisedOnly_setMonRec _ m _ s
  · exact raisedOnly_trans (raisedOnly_setMonRec _ m _ s) (hj _)

/-- An inactive evaluation raises nothing but what a Fault cause that it posts raises; of a monitor other than M4 and
M10 it raises nothing. -/
theorem evalCondition_false_alerts {m : MonNo} (h : m ≠ mon4) (h' : m ≠ mon10) (s : State) :
    (evalCondition m false s).alerts = s.alerts := by
  unfold evalCondition; dsimp only; split_ifs <;> simp_all [judgeMute_other h h']

end Sys2Proof.Machine
end

