-- ==== Sys2Proof/Laws/Breaks.lean ====
section
/-! SUPPORT. What the operations of the Break Table can do to a record and to its queue, and the boundary rule seen at one
record. -/

namespace Sys2Proof.Machine

open Sys2Proof

/-! ### Records and queues under the shared operations -/

theorem recOf_setRec (r q : Fin 16) (b : Option BreakRec) (s : State) :
    recOf (setRec r b s) q = if q = r then b else recOf s q := by
  simp [recOf, setRec, State.setBreaks, Tab.get_set]

theorem recOf_freeRecord (r q : Fin 16) (s : State) :
    recOf (freeRecord r s) q = if q = r then none else recOf s q := by
  simp [recOf, freeRecord, State.setBreaks, Tab.get_set]

theorem queueOf_setQueue (r q : Fin 16) (l : List Extent) (s : State) :
    queueOf (setQueue r l s) q = if q = r then l else queueOf s q := by
  simp [queueOf, setQueue, State.setMemory, Tab.get_set]

theorem slotOf_setSlotOf (k j : Fin 2) (q : Option Request) (s : State) :
    slotOf (setSlotOf k q s) j = if j = k then q else slotOf s j := by
  simp [slotOf, setSlotOf, State.setLink, Tab.get_set]

/-- What a change of an entry does to the records. -/
theorem recOf_updateEntry (r q : Fin 16) (e : Fin 8) (f : Entry → Entry) (s : State) :
    recOf (updateEntry r e f s) q = if q = r then (recOf s r).map (mapEntry · e f) else recOf s q := by
  unfold updateEntry
  split <;> rename_i h
  · by_cases hq : q = r
    · subst hq; simp [h]
    · simp [hq]
  · simp [recOf_setRec, h]

/-- R106: the attempt count is cleared at an entry that still holds the request's segment id, and nowhere else. -/
theorem recOf_clearAttempts (q : Request) (s : State) (r : Fin 16) :
    recOf (clearAttempts q s) r = if r = q.record then (recOf s r).map fun b => mapEntry b q.entry fun x =>
      if x.segment = q.segment then { x with attempts := 0 } else x else recOf s r := by
  unfold clearAttempts
  rw [recOf_updateEntry]
  split <;> simp_all

@[simp] theorem queueOf_setRec (r q : Fin 16) (b : Option BreakRec) (s : State) :
    queueOf (setRec r b s) q = queueOf s q := rfl
@[simp] theorem queueOf_freeRecord (r q : Fin 16) (s : State) : queueOf (freeRecord r s) q = queueOf s q := rfl
@[simp] theorem recOf_setQueue (r q : Fin 16) (l : List Extent) (s : State) :
    recOf (setQueue r l s) q = recOf s q := rfl
@[simp] theorem recOf_setSlotOf (k : Fin 2) (x : Option Request) (q : Fin 16) (s : State) :
    recOf (setSlotOf k x s) q = recOf s q := rfl
@[simp] theorem queueOf_setSlotOf (k : Fin 2) (x : Option Request) (q : Fin 16) (s : State) :
    queueOf (setSlotOf k x s) q = queueOf s q := rfl
@[simp] theorem recOf_setDetached (k : Fin 2) (n : Nat) (q : Fin 16) (s : State) :
    recOf (setDetached k n s) q = recOf s q := rfl
@[simp] theorem queueOf_setDetached (k : Fin 2) (n : Nat) (q : Fin 16) (s : State) :
    queueOf (setDetached k n s) q = queueOf s q := rfl
@[simp] theorem recOf_raise (src : Source) (r : Fin 16) (s : State) : recOf (raise src s) r = recOf s r := rfl
@[simp] theorem queueOf_raise (src : Source) (r : Fin 16) (s : State) : queueOf (raise src s) r = queueOf s r := rfl
@[simp] theorem recOf_evalEvent (m : MonNo) (r : Fin 16) (s : State) : recOf (evalEvent m s) r = recOf s r := by
  simp [recOf]
@[simp] theorem queueOf_evalEvent (m : MonNo) (r : Fin 16) (s : State) : queueOf (evalEvent m s) r = queueOf s r := by
  simp [queueOf]
@[simp] theorem recOf_evalCondition (m : MonNo) (a : Bool) (r : Fin 16) (s : State) :
    recOf (evalCondition m a s) r = recOf s r := by simp [recOf]
@[simp] theorem queueOf_evalCondition (m : MonNo) (a : Bool) (r : Fin 16) (s : State) :
    queueOf (evalCondition m a s) r = queueOf s r := by simp [queueOf]
@[simp] theorem recOf_setOrder (l : List (Fin 16)) (x : Fin 16) (s : State) :
    recOf (s.setBreaks { s.breaks with terminalOrder := l }) x = recOf s x := rfl
@[simp] theorem queueOf_setOrder (l : List (Fin 16)) (x : Fin 16) (s : State) :
    queueOf (s.setBreaks { s.breaks with terminalOrder := l }) x = queueOf s x := rfl

/-! ### Settings -/

@[simp] theorem settings_setRec (r : Fin 16) (b : Option BreakRec) (s : State) : (setRec r b s).settings = s.settings := rfl
@[simp] theorem settings_freeRecord (r : Fin 16) (s : State) : (freeRecord r s).settings = s.settings := rfl

/-! ### Termination (R112, R128) -/

theorem abortRequest_kept (r : Fin 16) (k : Fin 2) (s : State) :
    abortRequest r k s = { s with link := (abortRequest r k s).link, memory := (abortRequest r k s).memory } ∧
      (abortRequest r k s).memory.queues = s.memory.queues ∧
      (abortRequest r k s).link = { s.link with slots := (abortRequest r k s).link.slots } := by
  unfold abortRequest
  split
  · exact ⟨rfl, rfl, rfl⟩
  · split_ifs
    · exact ⟨rfl, rfl, rfl⟩
    · split <;> exact ⟨rfl, rfl, rfl⟩

/-- Everything the end of a record's requests leaves alone. -/
theorem dropRequests_kept (r : Fin 16) (s : State) :
    dropRequests r s = { s with link := (dropRequests r s).link, memory := (dropRequests r s).memory } ∧
      (dropRequests r s).link = { s.link with
        slots := (dropRequests r s).link.slots, created := s.link.created.filter (· != r) } ∧
      ∀ q, queueOf (dropRequests r s) q = if q = r then [] else queueOf s q := by
  obtain ⟨a1, a2, a3⟩ := abortRequest_kept r 0 s
  obtain ⟨b1, b2, b3⟩ := abortRequest_kept r 1 (abortRequest r 0 s)
  refine ⟨?_, ?_, fun q => ?_⟩
  · unfold dropRequests
    rw [b1, a1]
    rfl
  · unfold dropRequests
    simp only [State.setLink, setQueue, State.setMemory]
    rw [b3, a3]
  · unfold dropRequests
    simp only [queueOf, State.setLink, setQueue, State.setMemory, Tab.get_set]
    rw [b2, a2]

@[simp] theorem recOf_dropRequests (r q : Fin 16) (s : State) : recOf (dropRequests r s) q = recOf s q := by
  unfold recOf; rw [(dropRequests_kept r s).1]

@[simp] theorem settings_dropRequests (r : Fin 16) (s : State) : (dropRequests r s).settings = s.settings := by
  rw [(dropRequests_kept r s).1]

/-- R112: a record as its termination leaves it, from its queue. -/
def terminated (final : BreakState) (cause : TermCause) (seq : Option Seq) (queue : List Extent) (b : BreakRec) : BreakRec :=
  { b with
    state := final
    cause := some cause
    termSeq := seq
    surplus := if final = .done then b.surplus + queueUnread queue else b.surplus
    entries := b.entries.map fun e => { e with timer := none } }

/-- R112: a termination seen at every record and queue. -/
theorem terminate_view {r : Fin 16} {final : BreakState} {cause : TermCause} {at? : Option Seq} {s : State} {b : BreakRec}
    (h : recOf s r = some b) (x : Fin 16) :
    recOf (terminate r final cause at? s) x =
        (if x = r then some (terminated final cause (at?.or (timelineSeq s)) (queueOf s r) b) else recOf s x) ∧
      queueOf (terminate r final cause at? s) x = (if x = r then [] else queueOf s x) ∧
      (terminate r final cause at? s).settings = s.settings := by
  have e : ∀ (p : Prop) [Decidable p] (t : State), recOf (if p then raise srcAbandoned t else t) x = recOf t x ∧
      queueOf (if p then raise srcAbandoned t else t) x = queueOf t x ∧
      (if p then raise srcAbandoned t else t).settings = t.settings := by
    intro p _ t; split <;> exact ⟨rfl, rfl, rfl⟩
  unfold terminate
  simp only [h]
  refine ⟨?_, ?_, ?_⟩
  · rw [(e _ _).1, recOf_raise, recOf_setOrder, recOf_dropRequests, recOf_setRec]
    cases at? <;> rfl
  · rw [(e _ _).2.1, queueOf_raise, queueOf_setOrder, (dropRequests_kept _ _).2.2, queueOf_setRec]
  · rw [(e _ _).2.2]
    simp

/-! ### Changes made record by record -/

/-- What a rule makes of a record and of its queue, from the active profile; a freed record is none. -/
abbrev RecordRule := Profile → List Extent → BreakRec → Option BreakRec × List Extent

/-- A record and its queue. -/
def view (s : State) (r : Fin 16) : Option BreakRec × List Extent := (recOf s r, queueOf s r)

/-- A rule taken on a record and its queue; a Free record stays. -/
def RecordRule.on (g : RecordRule) (p : Profile) (v : Option BreakRec × List Extent) : Option BreakRec × List Extent :=
  match v.1 with
  | some b => g p v.2 b
  | none => v

/-- A change of state made for a record acts on that record and its queue by a rule, and on no other record, queue or
setting. -/
structure Local (f : Fin 16 → BreakRec → State → State) (g : RecordRule) : Prop where
  own      : ∀ r b s, recOf s r = some b → view (f r b s) r = g s.profile (queueOf s r) b
  others   : ∀ r b s, recOf s r = some b → ∀ q, q ≠ r → view (f r b s) q = view s q
  settings : ∀ r b s, recOf s r = some b → (f r b s).settings = s.settings

theorem Local.fold {f : Fin 16 → BreakRec → State → State} {g : RecordRule} (h : Local f g) (l : List (Fin 16)) (s : State)
    (r : Fin 16) (hr : r ∉ l) :
    let t := l.foldl (fun s j => match recOf s j with
      | none => s
      | some b => f j b s) s
    view t r = view s r ∧ t.settings = s.settings := by
  induction l generalizing s with
  | nil => exact ⟨rfl, rfl⟩
  | cons j l ih =>
    simp only [List.mem_cons, not_or] at hr
    simp only [List.foldl_cons]
    rcases hj : recOf s j with _ | b
    · simpa [hj] using ih s hr.2
    · have := ih (f j b s) hr.2
      exact ⟨this.1.trans (h.others j b s hj r hr.1), this.2.trans (h.settings j b s hj)⟩

/-- A change made for every record, seen at one record: its rule, taken once. -/
theorem Local.view_eachRecord {f : Fin 16 → BreakRec → State → State} {g : RecordRule} (h : Local f g) (s : State)
    (r : Fin 16) :
    view (eachRecord f s) r = g.on s.profile (view s r) ∧ (eachRecord f s).settings = s.settings := by
  obtain ⟨below, above, -, h1, h2, h3⟩ := forEach_split (fun r s => match recOf s r with
    | none => s
    | some b => f r b s) s r
  have k1 := h.fold below s r h1
  simp only at k1 h3
  generalize hu : below.foldl (fun s j => match recOf s j with
    | none => s
    | some b => f j b s) s = u at k1 h3
  have e1 : recOf u r = recOf s r := congrArg Prod.fst k1.1
  have e2 : queueOf u r = queueOf s r := congrArg Prod.snd k1.1
  rw [show eachRecord f s = _ from h3]
  rcases hb : recOf s r with _ | b
  · simp only [e1, hb]
    have k2 := h.fold above u r h2
    refine ⟨?_, k2.2.trans k1.2⟩
    rw [k2.1, k1.1]
    simp [RecordRule.on, view, hb]
  · simp only [e1, hb]
    have k2 := h.fold above (f r b u) r h2
    have hub : recOf u r = some b := e1.trans hb
    refine ⟨?_, (k2.2.trans (h.settings r b u hub)).trans k1.2⟩
    rw [k2.1, h.own r b u hub, e2, show u.profile = s.profile by simp [State.profile, k1.2]]
    simp [RecordRule.on, view, hb]

/-! ### The boundary rule (R109), step by step -/

/-- R112: the rule of a termination at a boundary. -/
def terminationRule (q : Seq) (final : BreakState) (cause : TermCause) : RecordRule := fun _ queue b =>
  (some (terminated final cause (some q) queue b), [])

/-- A change that is a record rule's when a test holds, and nothing otherwise. -/
theorem local_ite {c : BreakRec → Prop} [DecidablePred c] {f : Fin 16 → BreakRec → State → State} {g : RecordRule}
    (h : Local f g) :
    Local (fun r b s => if c b then f r b s else s) (fun p queue b => if c b then g p queue b else (some b, queue)) := by
  constructor
  · intro r b s hb
    by_cases hc : c b
    · simpa [hc] using h.own r b s hb
    · simp [hc, view, hb]
  · intro r b s hb q hq
    by_cases hc : c b
    · simpa [hc] using h.others r b s hb q hq
    · simp [hc]
  · intro r b s hb
    by_cases hc : c b
    · simpa [hc] using h.settings r b s hb
    · simp [hc]

theorem local_terminate (q : Seq) (final : BreakState) (cause : BreakRec → TermCause) :
    Local (fun r b s => terminate r final (cause b) (some q) s)
      (fun p queue b => terminationRule q final (cause b) p queue b) := by
  constructor
  · intro r b s hb
    obtain ⟨h1, h2, -⟩ := terminate_view (final := final) (cause := cause b) (at? := some q) hb r
    simp [view, h1, h2, terminationRule]
  · intro r b s hb x hx
    obtain ⟨h1, h2, -⟩ := terminate_view (final := final) (cause := cause b) (at? := some q) hb x
    simp [view, h1, h2, hx]
  · intro r b s hb
    exact (terminate_view (final := final) (cause := cause b) (at? := some q) hb r).2.2

/-- A record replaced, and alerts or monitors touched besides. -/
theorem local_update (u : BreakRec → BreakRec) (k : State → State)
    (hk : ∀ s, (∀ r, view (k s) r = view s r) ∧ (k s).settings = s.settings) :
    Local (fun r b s => k (setRec r (some (u b)) s)) (fun _ queue b => (some (u b), queue)) := by
  constructor
  · intro r b s _
    rw [(hk _).1]
    simp [view, recOf_setRec]
  · intro r b s _ x hx
    rw [(hk _).1]
    simp [view, recOf_setRec, hx]
  · intro r b s _
    rw [(hk _).2]
    rfl

theorem view_raise (src : Source) (s : State) : (∀ r, view (raise src s) r = view s r) ∧ (raise src s).settings = s.settings :=
  ⟨fun _ => rfl, rfl⟩

/-- Step 1 of R109 at one record. -/
def endMarkedRule (q : Seq) (stopped : Bool) : RecordRule := fun p queue b =>
  if b.state = .onAir ∧ (b.underrunMark || b.earlyMark || stopped) = true then
    terminationRule q .done (if b.underrunMark then .underrunReturn else .returned) p queue b
  else (some b, queue)

theorem local_endMarked (q : Seq) (stopped : Bool) : Local (endMarked q stopped) (endMarkedRule q stopped) :=
  local_ite (local_terminate q .done fun b => if b.underrunMark then .underrunReturn else .returned)

/-- Step 2 of R109 at one record. -/
def endCompletedRule (q : Seq) : RecordRule := fun p queue b =>
  if b.state = .onAir ∧ atOrAfter q (b.sIn + b.frames) = true then terminationRule q .done .completed p queue b
  else (some b, queue)

theorem local_endCompleted (q : Seq) : Local (endCompleted q) (endCompletedRule q) :=
  local_ite (local_terminate q .done fun _ => .completed)

/-- Step 3 of R109 at one record. -/
def startFetchingRule (q : Seq) : RecordRule := fun p queue b =>
  if b.state = .armed ∧ atOrAfter q (b.sIn - BitVec.ofNat 16 p.prefetch) = true then
    (some { b with state := .fetching }, queue)
  else (some b, queue)

theorem local_startFetching (q : Seq) : Local (startFetching q) (startFetchingRule q) := by
  have h := local_update (fun b => { b with state := .fetching }) (raise srcBreak) (view_raise srcBreak)
  constructor
  · intro r b s hb
    by_cases hc : b.state = .armed ∧ atOrAfter q (fetchingPoint s b) = true
    · rw [startFetching, if_pos hc, h.own r b s hb]
      exact (if_pos hc).symm
    · rw [startFetching, if_neg hc]
      exact (by simp [view, hb] : view s r = (some b, queueOf s r)).trans (if_neg hc).symm
  · intro r b s hb x hx
    unfold startFetching
    split_ifs
    · exact h.others r b s hb x hx
    · rfl
  · intro r b s hb
    unfold startFetching
    split_ifs <;> rfl

/-- Step 4 of R109 and R110 at one record. -/
def startDueRule (q : Seq) (stopped : Bool) : RecordRule := fun p queue b =>
  if (b.state = .pending ∨ b.state = .armed ∨ b.state = .fetching) ∧ atOrAfter q b.sIn = true then
    if (!inRange q b.sIn b.frames.toNat || stopped) = true then terminationRule q .abandoned .notOnAir p queue b
    else if b.state = .fetching ∧ min p.startFill (b.total.getD 0) ≤ headFilled queue then
      (some { b with state := .onAir }, queue)
    else terminationRule q .abandoned .notReady p queue b
  else (some b, queue)

theorem local_startDue (q : Seq) (stopped : Bool) : Local (startDue q stopped) (startDueRule q stopped) := by
  have hu := local_update (fun b => { b with state := .onAir }) (raise srcBreak) (view_raise srcBreak)
  have h1 := local_terminate q .abandoned fun _ => .notOnAir
  have h2 := local_terminate q .abandoned fun _ => .notReady
  have hv : ∀ s r, view (evalEvent mon13 s) r = view s r := by intro s r; simp [view]
  constructor
  · intro r b s hb
    simp only [startDue, evaluateStart, startDueRule]
    split_ifs
    · exact h1.own r b s hb
    · exact hu.own r b s hb
    · rw [hv]; exact h2.own r b s hb
    · simp [view, hb]
  · intro r b s hb x hx
    simp only [startDue, evaluateStart]
    split_ifs
    · exact h1.others r b s hb x hx
    · exact hu.others r b s hb x hx
    · rw [hv]; exact h2.others r b s hb x hx
    · rfl
  · intro r b s hb
    simp only [startDue, evaluateStart]
    split_ifs
    · exact h1.settings r b s hb
    · rfl
    · rw [evalEvent_settings]; exact h2.settings r b s hb
    · rfl

/-- Step 5 of R109 at one record. -/
def countOnAirRule (q : Seq) : RecordRule := fun _ queue b =>
  if b.state = .onAir ∧ inRange q b.sIn b.frames.toNat = true then
    (some { b with framesOnAir := b.framesOnAir + 1 }, queue)
  else (some b, queue)

theorem local_countOnAir (q : Seq) : Local (countOnAir q) (countOnAirRule q) :=
  local_ite (local_update (fun b => { b with framesOnAir := b.framesOnAir + 1 }) id fun _ => ⟨fun _ => rfl, rfl⟩)

/-- R112 at one record: the termination sequence fixed. -/
def fixTermSeqRule (q : Seq) : RecordRule := fun _ queue b =>
  if b.state.live = false ∧ b.termSeq = none then (some { b with termSeq := some q }, queue) else (some b, queue)

theorem local_fixTermSeq (q : Seq) : Local (fixTermSeq q) (fixTermSeqRule q) :=
  local_ite (local_update (fun b => { b with termSeq := some q }) id fun _ => ⟨fun _ => rfl, rfl⟩)

/-- Step 6 of R109 at one record. -/
def freeRetainedRule (q : Seq) : RecordRule := fun p queue b =>
  match b.termSeq with
  | some t => if b.state.live = false ∧ p.retention ≤ (q - t).toNat then (none, queue) else (some b, queue)
  | none => (some b, queue)

theorem local_freeRetained (q : Seq) : Local (freeRetained q) (freeRetainedRule q) := by
  constructor
  · intro r b s hb
    rcases ht : b.termSeq with _ | t
    · simp [freeRetained, freeRetainedRule, ht, view, hb]
    · simp only [freeRetained, freeRetainedRule, ht]
      split_ifs <;> simp [view, recOf_freeRecord, hb]
  · intro r b s hb x hx
    simp only [freeRetained]
    split
    · split_ifs <;> simp [view, recOf_freeRecord, hx]
    · rfl
  · intro r b s hb
    simp only [freeRetained]
    split
    · split_ifs <;> rfl
    · rfl

/-- R109: the six steps at one record, in order. -/
def boundaryRecord (q : Seq) (stopped : Bool) (p : Profile) (v : Option BreakRec × List Extent) :
    Option BreakRec × List Extent :=
  (freeRetainedRule q).on p <| (fixTermSeqRule q).on p <| (countOnAirRule q).on p <| (startDueRule q stopped).on p <|
    (startFetchingRule q).on p <| (endCompletedRule q).on p <| (endMarkedRule q stopped).on p v

/-- R109: the boundary rule seen at one record: its six steps, on that record and its queue alone. -/
theorem view_boundaryRule (q : Seq) (stopped : Bool) (s : State) (r : Fin 16) :
    view (boundaryRule q stopped s) r = boundaryRecord q stopped s.profile (view s r) ∧
      (boundaryRule q stopped s).settings = s.settings := by
  have profile_of : ∀ {t u : State}, t.settings = u.settings → t.profile = u.profile := by
    intro t u h; simp [State.profile, h]
  simp only [boundaryRule]
  generalize h1 : eachRecord (endMarked q stopped) s = s1
  generalize h2 : eachRecord (endCompleted q) s1 = s2
  generalize h3 : eachRecord (startFetching q) s2 = s3
  generalize h4 : eachRecord (startDue q stopped) s3 = s4
  generalize h5 : eachRecord (countOnAir q) s4 = s5
  generalize h6 : eachRecord (fixTermSeq q) s5 = s6
  have a1 := (local_endMarked q stopped).view_eachRecord s r
  have a2 := (local_endCompleted q).view_eachRecord s1 r
  have a3 := (local_startFetching q).view_eachRecord s2 r
  have a4 := (local_startDue q stopped).view_eachRecord s3 r
  have a5 := (local_countOnAir q).view_eachRecord s4 r
  have a6 := (local_fixTermSeq q).view_eachRecord s5 r
  have a7 := (local_freeRetained q).view_eachRecord s6 r
  rw [h1] at a1
  rw [h2] at a2
  rw [h3] at a3
  rw [h4] at a4
  rw [h5] at a5
  rw [h6] at a6
  have e1 := a1.2
  have e2 := a2.2.trans e1
  have e3 := a3.2.trans e2
  have e4 := a4.2.trans e3
  have e5 := a5.2.trans e4
  have e6 := a6.2.trans e5
  refine ⟨?_, a7.2.trans e6⟩
  rw [a7.1, a6.1, a5.1, a4.1, a3.1, a2.1, a1.1, profile_of e1, profile_of e2, profile_of e3, profile_of e4, profile_of e5,
    profile_of e6]
  rfl

end Sys2Proof.Machine
end

