-- ==== Sys2Proof/Laws/PerInstr.lean ====
section
/-! SUPPORT. Statements made per command: the code and the arguments of a port's command name that command alone. -/

namespace Sys2Proof.Laws

open Sys2Proof Sys2Proof.Machine

/-- The port, the code and the argument bytes of a command that a port carries (R162); none for any other event. -/
def frameOf : Instr → Option (Port × Byte × List Byte)
  | .unknownCommand p code args => some (p, code, args)
  | .noOperation p args => some (p, 0x01, args)
  | .readStatus p args => some (p, 0x02, args)
  | .claimDirection p args => some (p, 0x03, args)
  | .releaseDirection p args => some (p, 0x04, args)
  | .refuseClaim p args => some (p, 0x05, args)
  | .presence p args => some (p, 0x06, args)
  | .writeSetting p args => some (p, 0x07, args)
  | .readSetting p args => some (p, 0x08, args)
  | .applyStaged p args => some (p, 0x09, args)
  | .discardStaged p args => some (p, 0x0A, args)
  | .startEmission p args => some (p, 0x0B, args)
  | .stopEmission p args => some (p, 0x0C, args)
  | .setMute p args => some (p, 0x0D, args)
  | .forcePath p args => some (p, 0x0E, args)
  | .createBreak p args => some (p, 0x0F, args)
  | .amendBreak p args => some (p, 0x10, args)
  | .cancelBreak p args => some (p, 0x11, args)
  | .retireBreak p args => some (p, 0x12, args)
  | .readBreak p args => some (p, 0x13, args)
  | .listBreaks p args => some (p, 0x14, args)
  | .readMonitor p args => some (p, 0x15, args)
  | .clearFaults p args => some (p, 0x16, args)
  | .readTimebase p args => some (p, 0x17, args)
  | .setAlertRouting p args => some (p, 0x18, args)
  | .setAlertMask p args => some (p, 0x19, args)
  | .takeAlert p args => some (p, 0x1A, args)
  | .setAlertPriority p args => some (p, 0x1B, args)
  | .restartSite p args => some (p, 0x1C, args)
  | .fullReset => none
  | .adjustmentPeriodEnd => none
  | .secondsChange => none
  | .timeOfDayMessage _ => none
  | .referencePulse => none
  | .missingPulseDeadline => none
  | .headerAccepted _ _ => none
  | .frameCompletion _ _ => none
  | .silenceInterval _ => none
  | .boundary _ => none
  | .requeryTimerExpiry _ _ => none
  | .packetPresentation => none
  | .muteLineAssert => none
  | .messageSend => none
  | .messageSent => none
  | .ready _ _ _ => none
  | .unknown _ _ => none
  | .burst _ _ _ _ _ => none
  | .withdraw _ => none
  | .corruptMessage _ => none
  | .replyTimeout _ => none
  | .statusByteFormed _ => none
  | .frameError _ _ => none
  | .presenceMissing => none
  | .adjustmentPosition => none

/-- R162: a well-formed command that a port carries is the command of its code and arguments, and fits a frame. -/
def CodeNamesCommand.Statement (c : Instr) : Prop :=
  c.wellFormed = true → ∀ p code args, frameOf c = some (p, code, args) →
    commandOf p code args = c ∧ args.length ≤ 48

theorem CodeNamesCommand.fullReset :
    CodeNamesCommand.Statement .fullReset := by
  rintro _ _ _ _ ⟨⟩

theorem CodeNamesCommand.adjustmentPeriodEnd :
    CodeNamesCommand.Statement .adjustmentPeriodEnd := by
  rintro _ _ _ _ ⟨⟩

theorem CodeNamesCommand.secondsChange :
    CodeNamesCommand.Statement .secondsChange := by
  rintro _ _ _ _ ⟨⟩

theorem CodeNamesCommand.timeOfDayMessage (bytes : List Byte) :
    CodeNamesCommand.Statement (.timeOfDayMessage bytes) := by
  rintro _ _ _ _ ⟨⟩

theorem CodeNamesCommand.referencePulse :
    CodeNamesCommand.Statement .referencePulse := by
  rintro _ _ _ _ ⟨⟩

theorem CodeNamesCommand.missingPulseDeadline :
    CodeNamesCommand.Statement .missingPulseDeadline := by
  rintro _ _ _ _ ⟨⟩

theorem CodeNamesCommand.headerAccepted (input : InputNo) (bytes : List Byte) :
    CodeNamesCommand.Statement (.headerAccepted input bytes) := by
  rintro _ _ _ _ ⟨⟩

theorem CodeNamesCommand.frameCompletion (input : InputNo) (bytes : List Byte) :
    CodeNamesCommand.Statement (.frameCompletion input bytes) := by
  rintro _ _ _ _ ⟨⟩

theorem CodeNamesCommand.silenceInterval (input : InputNo) :
    CodeNamesCommand.Statement (.silenceInterval input) := by
  rintro _ _ _ _ ⟨⟩

theorem CodeNamesCommand.boundary (exciterReady : Bool) :
    CodeNamesCommand.Statement (.boundary exciterReady) := by
  rintro _ _ _ _ ⟨⟩

theorem CodeNamesCommand.requeryTimerExpiry (record : Fin 16) (entry : Fin 8) :
    CodeNamesCommand.Statement (.requeryTimerExpiry record entry) := by
  rintro _ _ _ _ ⟨⟩

theorem CodeNamesCommand.packetPresentation :
    CodeNamesCommand.Statement .packetPresentation := by
  rintro _ _ _ _ ⟨⟩

theorem CodeNamesCommand.muteLineAssert :
    CodeNamesCommand.Statement .muteLineAssert := by
  rintro _ _ _ _ ⟨⟩

theorem CodeNamesCommand.messageSend :
    CodeNamesCommand.Statement .messageSend := by
  rintro _ _ _ _ ⟨⟩

theorem CodeNamesCommand.messageSent :
    CodeNamesCommand.Statement .messageSent := by
  rintro _ _ _ _ ⟨⟩

theorem CodeNamesCommand.ready (tag : Byte) (segment : BitVec 32) (count : BitVec 32) :
    CodeNamesCommand.Statement (.ready tag segment count) := by
  rintro _ _ _ _ ⟨⟩

theorem CodeNamesCommand.unknown (tag : Byte) (segment : BitVec 32) :
    CodeNamesCommand.Statement (.unknown tag segment) := by
  rintro _ _ _ _ ⟨⟩

theorem CodeNamesCommand.burst (tag : Byte) (breakId : BitVec 16) (segment : BitVec 32) (offset : BitVec 32) (packets : List ServicePacket) :
    CodeNamesCommand.Statement (.burst tag breakId segment offset packets) := by
  rintro _ _ _ _ ⟨⟩

theorem CodeNamesCommand.withdraw (segment : BitVec 32) :
    CodeNamesCommand.Statement (.withdraw segment) := by
  rintro _ _ _ _ ⟨⟩

theorem CodeNamesCommand.corruptMessage (bytes : List Byte) :
    CodeNamesCommand.Statement (.corruptMessage bytes) := by
  rintro _ _ _ _ ⟨⟩

theorem CodeNamesCommand.replyTimeout (slot : Fin 2) :
    CodeNamesCommand.Statement (.replyTimeout slot) := by
  rintro _ _ _ _ ⟨⟩

theorem CodeNamesCommand.statusByteFormed (port : Port) :
    CodeNamesCommand.Statement (.statusByteFormed port) := by
  rintro _ _ _ _ ⟨⟩

theorem CodeNamesCommand.frameError (port : Port) (bytes : List Byte) :
    CodeNamesCommand.Statement (.frameError port bytes) := by
  rintro _ _ _ _ ⟨⟩

theorem CodeNamesCommand.unknownCommand (port : Port) (code : Byte) (args : List Byte) :
    CodeNamesCommand.Statement (.unknownCommand port code args) := by
  rintro h _ _ _ ⟨⟩
  simp only [Instr.wellFormed, argsFit, knownCode, Bool.and_eq_true, Bool.not_eq_true', decide_eq_false_iff_not,
    decide_eq_true_eq] at h
  refine ⟨?_, h.2⟩
  revert h
  generalize hn : code.toNat = n
  intro h
  simp only [commandOf, hn]
  split <;> first | rfl | omega

theorem CodeNamesCommand.noOperation (port : Port) (args : List Byte) :
    CodeNamesCommand.Statement (.noOperation port args) := by
  rintro h _ _ _ ⟨⟩
  exact ⟨rfl, by simpa [Instr.wellFormed, argsFit] using h⟩

theorem CodeNamesCommand.readStatus (port : Port) (args : List Byte) :
    CodeNamesCommand.Statement (.readStatus port args) := by
  rintro h _ _ _ ⟨⟩
  exact ⟨rfl, by simpa [Instr.wellFormed, argsFit] using h⟩

theorem CodeNamesCommand.claimDirection (port : Port) (args : List Byte) :
    CodeNamesCommand.Statement (.claimDirection port args) := by
  rintro h _ _ _ ⟨⟩
  exact ⟨rfl, by simpa [Instr.wellFormed, argsFit] using h⟩

theorem CodeNamesCommand.releaseDirection (port : Port) (args : List Byte) :
    CodeNamesCommand.Statement (.releaseDirection port args) := by
  rintro h _ _ _ ⟨⟩
  exact ⟨rfl, by simpa [Instr.wellFormed, argsFit] using h⟩

theorem CodeNamesCommand.refuseClaim (port : Port) (args : List Byte) :
    CodeNamesCommand.Statement (.refuseClaim port args) := by
  rintro h _ _ _ ⟨⟩
  exact ⟨rfl, by simpa [Instr.wellFormed, argsFit] using h⟩

theorem CodeNamesCommand.presence (port : Port) (args : List Byte) :
    CodeNamesCommand.Statement (.presence port args) := by
  rintro h _ _ _ ⟨⟩
  exact ⟨rfl, by simpa [Instr.wellFormed, argsFit] using h⟩

theorem CodeNamesCommand.presenceMissing :
    CodeNamesCommand.Statement .presenceMissing := by
  rintro _ _ _ _ ⟨⟩

theorem CodeNamesCommand.writeSetting (port : Port) (args : List Byte) :
    CodeNamesCommand.Statement (.writeSetting port args) := by
  rintro h _ _ _ ⟨⟩
  exact ⟨rfl, by simpa [Instr.wellFormed, argsFit] using h⟩

theorem CodeNamesCommand.readSetting (port : Port) (args : List Byte) :
    CodeNamesCommand.Statement (.readSetting port args) := by
  rintro h _ _ _ ⟨⟩
  exact ⟨rfl, by simpa [Instr.wellFormed, argsFit] using h⟩

theorem CodeNamesCommand.applyStaged (port : Port) (args : List Byte) :
    CodeNamesCommand.Statement (.applyStaged port args) := by
  rintro h _ _ _ ⟨⟩
  exact ⟨rfl, by simpa [Instr.wellFormed, argsFit] using h⟩

theorem CodeNamesCommand.discardStaged (port : Port) (args : List Byte) :
    CodeNamesCommand.Statement (.discardStaged port args) := by
  rintro h _ _ _ ⟨⟩
  exact ⟨rfl, by simpa [Instr.wellFormed, argsFit] using h⟩

theorem CodeNamesCommand.startEmission (port : Port) (args : List Byte) :
    CodeNamesCommand.Statement (.startEmission port args) := by
  rintro h _ _ _ ⟨⟩
  exact ⟨rfl, by simpa [Instr.wellFormed, argsFit] using h⟩

theorem CodeNamesCommand.stopEmission (port : Port) (args : List Byte) :
    CodeNamesCommand.Statement (.stopEmission port args) := by
  rintro h _ _ _ ⟨⟩
  exact ⟨rfl, by simpa [Instr.wellFormed, argsFit] using h⟩

theorem CodeNamesCommand.setMute (port : Port) (args : List Byte) :
    CodeNamesCommand.Statement (.setMute port args) := by
  rintro h _ _ _ ⟨⟩
  exact ⟨rfl, by simpa [Instr.wellFormed, argsFit] using h⟩

theorem CodeNamesCommand.forcePath (port : Port) (args : List Byte) :
    CodeNamesCommand.Statement (.forcePath port args) := by
  rintro h _ _ _ ⟨⟩
  exact ⟨rfl, by simpa [Instr.wellFormed, argsFit] using h⟩

theorem CodeNamesCommand.createBreak (port : Port) (args : List Byte) :
    CodeNamesCommand.Statement (.createBreak port args) := by
  rintro h _ _ _ ⟨⟩
  exact ⟨rfl, by simpa [Instr.wellFormed, argsFit] using h⟩

theorem CodeNamesCommand.amendBreak (port : Port) (args : List Byte) :
    CodeNamesCommand.Statement (.amendBreak port args) := by
  rintro h _ _ _ ⟨⟩
  exact ⟨rfl, by simpa [Instr.wellFormed, argsFit] using h⟩

theorem CodeNamesCommand.cancelBreak (port : Port) (args : List Byte) :
    CodeNamesCommand.Statement (.cancelBreak port args) := by
  rintro h _ _ _ ⟨⟩
  exact ⟨rfl, by simpa [Instr.wellFormed, argsFit] using h⟩

theorem CodeNamesCommand.retireBreak (port : Port) (args : List Byte) :
    CodeNamesCommand.Statement (.retireBreak port args) := by
  rintro h _ _ _ ⟨⟩
  exact ⟨rfl, by simpa [Instr.wellFormed, argsFit] using h⟩

theorem CodeNamesCommand.readBreak (port : Port) (args : List Byte) :
    CodeNamesCommand.Statement (.readBreak port args) := by
  rintro h _ _ _ ⟨⟩
  exact ⟨rfl, by simpa [Instr.wellFormed, argsFit] using h⟩

theorem CodeNamesCommand.listBreaks (port : Port) (args : List Byte) :
    CodeNamesCommand.Statement (.listBreaks port args) := by
  rintro h _ _ _ ⟨⟩
  exact ⟨rfl, by simpa [Instr.wellFormed, argsFit] using h⟩

theorem CodeNamesCommand.readMonitor (port : Port) (args : List Byte) :
    CodeNamesCommand.Statement (.readMonitor port args) := by
  rintro h _ _ _ ⟨⟩
  exact ⟨rfl, by simpa [Instr.wellFormed, argsFit] using h⟩

theorem CodeNamesCommand.clearFaults (port : Port) (args : List Byte) :
    CodeNamesCommand.Statement (.clearFaults port args) := by
  rintro h _ _ _ ⟨⟩
  exact ⟨rfl, by simpa [Instr.wellFormed, argsFit] using h⟩

theorem CodeNamesCommand.readTimebase (port : Port) (args : List Byte) :
    CodeNamesCommand.Statement (.readTimebase port args) := by
  rintro h _ _ _ ⟨⟩
  exact ⟨rfl, by simpa [Instr.wellFormed, argsFit] using h⟩

theorem CodeNamesCommand.setAlertRouting (port : Port) (args : List Byte) :
    CodeNamesCommand.Statement (.setAlertRouting port args) := by
  rintro h _ _ _ ⟨⟩
  exact ⟨rfl, by simpa [Instr.wellFormed, argsFit] using h⟩

theorem CodeNamesCommand.setAlertMask (port : Port) (args : List Byte) :
    CodeNamesCommand.Statement (.setAlertMask port args) := by
  rintro h _ _ _ ⟨⟩
  exact ⟨rfl, by simpa [Instr.wellFormed, argsFit] using h⟩

theorem CodeNamesCommand.takeAlert (port : Port) (args : List Byte) :
    CodeNamesCommand.Statement (.takeAlert port args) := by
  rintro h _ _ _ ⟨⟩
  exact ⟨rfl, by simpa [Instr.wellFormed, argsFit] using h⟩

theorem CodeNamesCommand.setAlertPriority (port : Port) (args : List Byte) :
    CodeNamesCommand.Statement (.setAlertPriority port args) := by
  rintro h _ _ _ ⟨⟩
  exact ⟨rfl, by simpa [Instr.wellFormed, argsFit] using h⟩

theorem CodeNamesCommand.restartSite (port : Port) (args : List Byte) :
    CodeNamesCommand.Statement (.restartSite port args) := by
  rintro h _ _ _ ⟨⟩
  exact ⟨rfl, by simpa [Instr.wellFormed, argsFit] using h⟩

theorem CodeNamesCommand.adjustmentPosition :
    CodeNamesCommand.Statement .adjustmentPosition := by
  rintro _ _ _ _ ⟨⟩

end Sys2Proof.Laws
end

