-- ==== Sys2Proof/Laws/Receivers.lean ====
section
/-! SUPPORT. What the receivers of the lines can do: an arrival taken, the hunts, and a message as it stands on its line. -/

namespace Sys2Proof.Machine

open Sys2Proof

/-! ### Arrivals taken -/

/-- An arrival taken keeps its bytes; an event of the command's kind has its effect, and one that an earlier byte
completed does nothing. -/
theorem onArrival_cases {α : Type} (keep : List Byte → State → State) (take : α → Option (State → State)) (a : Arrival α)
    (s : State) :
    (∃ kept, a = .more kept ∧ onArrival keep take a s = keep kept s) ∨
      (∃ e kept f, a = .event e kept ∧ take e = some f ∧ onArrival keep take a s = f (keep kept s)) ∨
      (onArrival keep take a s = s ∧ (a = .past ∨ ∃ e kept, a = .event e kept ∧ take e = none)) := by
  cases a with
  | more kept => exact .inl ⟨kept, rfl, rfl⟩
  | past => exact .inr (.inr ⟨rfl, .inl rfl⟩)
  | event e kept =>
    cases h : take e with
    | none => exact .inr (.inr ⟨by simp [onArrival, h], .inr ⟨e, kept, rfl, h⟩⟩)
    | some f => exact .inr (.inl ⟨e, kept, f, rfl, h, by simp [onArrival, h]⟩)

/-- A well-formed message taken: its effect with nothing kept of the line, or none. -/
theorem onMessage_cases (fits : Bool) (message : List Byte) (take : State → State) (s : State) :
    (fits = true ∧ completes s message = true ∧ onMessage fits message take s = take (keepAdvert [] s)) ∨
      ((fits = false ∨ completes s message = false) ∧ onMessage fits message take s = s) := by
  cases fits <;> cases h : completes s message <;> simp [onMessage, h]

/-! ### The bytes kept -/

theorem keepFeed_eq (i : InputNo) (kept : List Byte) (s : State) :
    keepFeed i kept s = { s with lines := feedKept i kept s.lines } := rfl

theorem keepTod_eq (kept : List Byte) (s : State) : keepTod kept s = { s with lines := { s.lines with tod := kept } } := rfl

theorem keepAdvert_nil (s : State) : keepAdvert [] s = { s with lines := heard s.lines } := rfl

/-! ### Hunts (R6, R8) -/

/-- R6: what may stand of a header at the end of a stream. -/
def mayBegin (bytes : List Byte) : Prop := bytes = [] ∨ bytes = [0xC3] ∨ bytes.take 2 = [0xC3, 0x5E]

/-- The hunt passes over every byte that begins no sync word, and stops at the first that may. -/
theorem hunt_spec : ∀ bytes : List Byte, mayBegin (hunt bytes) ∧ ∃ passed, bytes = passed ++ hunt bytes ∧
    ∀ k, k < passed.length → ¬ mayBegin (bytes.drop k)
  | [] => ⟨.inl rfl, [], rfl, by simp⟩
  | b :: rest => by
    by_cases h : b = 0xC3 ∧ (rest.head?.getD 0x5E) = 0x5E
    · have e : hunt (b :: rest) = b :: rest := if_pos h
      rw [e]
      refine ⟨?_, [], rfl, by simp⟩
      cases rest with
      | nil => exact .inr (.inl (by rw [h.1]))
      | cons c t => exact .inr (.inr (by simpa using h))
    · have e : hunt (b :: rest) = hunt rest := if_neg h
      obtain ⟨hm, passed, hp, hk⟩ := hunt_spec rest
      rw [e]
      refine ⟨hm, b :: passed, by rw [List.cons_append, ← hp], fun k hlt => ?_⟩
      cases k with
      | succ k => simpa using hk k (by simpa using hlt)
      | zero =>
        rintro (h0 | h0 | h0)
        · cases h0
        · exact h ⟨(List.cons.inj h0).1, by rw [(List.cons.inj h0).2]; rfl⟩
        · cases rest with
          | nil => simp at h0
          | cons c t => exact h (by simpa using h0)

/-- The time-of-day hunt passes over every byte before the first marker. -/
theorem huntMarker_spec (bytes : List Byte) : ∃ passed, bytes = passed ++ huntMarker bytes ∧ (∀ b, b ∈ passed → b ≠ 0xA5) ∧
    (huntMarker bytes ≠ [] → (huntMarker bytes).head? = some 0xA5) := by
  refine ⟨bytes.takeWhile (· != 0xA5), (List.takeWhile_append_dropWhile ..).symm, fun b hb => ?_, fun h => ?_⟩
  · simpa using List.mem_takeWhile_imp hb
  · have := List.head_dropWhile_not (· != (0xA5 : Byte)) h
    rw [List.head?_eq_some_head h]
    simpa [huntMarker] using this

/-! ### Messages (R9) -/

/-- The body length of a message stands in its bytes 1 to 3. -/
theorem field_length (m : RawMessage) (h : m.body.length < 16777216) (rest : List Byte) :
    field (messageCovered m.kind m.body ++ rest) 1 3 = m.body.length := by
  simp [field, messageCovered, beBytes, beNat]
  omega

end Sys2Proof.Machine
end

