-- ==== Sys2Proof/Tests/Slice0.lean ====
section
/-! SUPPORT. The model's own tests: ill-formed commands refused, the manual's worked examples, and, for every statement
with hypotheses, a state and operands that meet them. -/

-- One theorem after another: each kernel evaluation holds a thread of its own.
set_option Elab.async false

namespace Sys2Proof.Tests

open Sys2Proof Sys2Proof.Machine

/-! ### Ill-formed commands (WellFormed) -/

/-- The argument bytes of a frame that is too long. -/
def longArgs : List Byte := List.replicate 49 0

theorem test_refuses_long_arguments : ∀ c ∈ [Instr.noOperation .a longArgs, .readStatus .b longArgs,
    .createBreak .a longArgs, .unknownCommand .b 0xFF longArgs, .restartSite .a longArgs],
    c.wellFormed = false := by decide +kernel

theorem test_refuses_known_code : (Instr.unknownCommand .a 0x1C []).wellFormed = false := by decide

theorem test_accepts_unknown_code : (Instr.unknownCommand .a 0x1D []).wellFormed = true := by decide

theorem test_refuses_no_bytes : ∀ c ∈ [Instr.timeOfDayMessage [], .headerAccepted .one [], .frameCompletion .two [],
    .corruptMessage []], c.wellFormed = false := by decide

theorem test_refuses_endless_message (bytes : List Byte) (h : bytes.length = 16777224) :
    (Instr.corruptMessage bytes).wellFormed = false := by simp [Instr.wellFormed, h, longestMessage]

theorem test_refuses_ready_of_none : (Instr.ready 0 5 0).wellFormed = false := by decide

theorem test_refuses_ready_above_range : (Instr.ready 0 5 16777216).wellFormed = false := by decide

theorem test_accepts_ready_at_limits :
    (Instr.ready 0 5 1).wellFormed = true ∧ (Instr.ready 1 5 16777215).wellFormed = true := by decide

theorem test_refuses_burst_sync : (Instr.burst 0 1 5 0 [{ nullPacket with sync := 0x47 }]).wellFormed = false := by
  decide

theorem test_refuses_burst_payload : (Instr.burst 0 1 5 0 [{ nullPacket with payload := [] }]).wellFormed = false := by
  decide

theorem test_refuses_sound_frame : (Instr.frameError .a (frameBytes 0x01 [] 2)).wellFormed = false := by decide +kernel

/-! ### Formats (01) -/

/-- The nine bytes of the table of R4. -/
def nineBytes : List Byte := [0x31, 0x32, 0x33, 0x34, 0x35, 0x36, 0x37, 0x38, 0x39]

/-- R4: the check values of the table. -/
theorem test_check_values : crc8 nineBytes = 0xF4 ∧ crc16 nineBytes = 0x29B1 ∧ crc32 nineBytes = 0x0376E6E7 := by
  decide +kernel

/-- R5: the null packet's first four bytes. -/
theorem test_null_packet : (packetBytes nullPacket).take 4 = [0x5A, 0x0F, 0xFF, 0x00] ∧
    (packetBytes nullPacket).length = 188 := by decide +kernel

/-- R1: the carry into the seconds, and the wrap below 0. -/
theorem test_time_sums : addTicks ⟨7, 9999999⟩ 1 = ⟨8, 0⟩ ∧ addTicks ⟨0, 0⟩ (-1) = ⟨4294967295, 9999999⟩ := by
  decide +kernel

/-- R10 and R162: a frame with its check is the command of its code, and one with a wrong check is a frame error (1.9). -/
theorem test_port_frames : portFrame .b (frameBytes 0x02 [3] 4) = .readStatus .b [3] ∧
    portFrame .b [0x01, 0x00, 0x00] = .frameError .b [0x01, 0x00, 0x00] ∧
    portFrame .a (frameBytes 0x1D [] 0) = .unknownCommand .a 0x1D [] := by decide +kernel

/-! ### States and outcomes for the tests -/

/-- A test of the next state; false at a stop. -/
def after (o : Host.Outcome State Fault Refusal) (f : State → Bool) : Bool :=
  match o with
  | .next t => f t
  | .fault _ => false
  | .refused _ => false

/-- The state after reset with port A directing. -/
def led : State := { State.reset with direction := ⟨some .a, none, some ⟨⟨0, 0⟩, some false, false, ⟨2, 0⟩⟩⟩ }

/-- The response that a port's next frame carries. -/
def answerOf (p : Port) (c : Instr) (s : State) : Option (Result × List Byte) :=
  match exec c s with
  | .next t => some ((portOf t.ports p).response.result, (portOf t.ports p).response.data)
  | .fault _ => none
  | .refused _ => none

/-- A state with another timebase. -/
def timed (tb : Timebase) : State := { State.reset with tb := tb }

/-- The timebase of 2.9.1: Tracking, F = 1,250, C = 40, a label that arrives with e = 30. -/
def tb291 : Timebase :=
  { Timebase.reset with
    localTime := ⟨499, 9999970⟩, state := .tracking, freq := 1250, carry := 40, expected := some 500, cycle := none }

/-- The state of 2.9.1 at its pulse. -/
def at291 : State := { timed tb291 with tod := .accepted 500 }

/-- 2.9.1: one loop update. -/
theorem test_reference_pulse_loop : after (exec .referencePulse at291) (fun t =>
    t.tb.freq == 1437 && t.tb.phase == 1500 && t.tb.adjust == 29 && t.tb.carry == 77 &&
      nextPosition t.tb == some 333333) = true := by decide +kernel

/-- 2.9.4: the completion on air returns nine gains to the carry. -/
def at294 : State :=
  { State.reset with
    tb := { Timebase.reset with
      localTime := ⟨500, 12⟩, state := .acquiring, freq := 1403, carry := 10, adjust := 14, cycle := some 3500000,
      applied := 5, acquired := some 499 }
    tod := .accepted 500
    output := { Output.reset with state := .running } }

theorem test_reference_pulse_on_air : after (exec .referencePulse at294) (fun t =>
    t.tb.state == .tracking && t.tb.carry == 13 && t.tb.adjust == 23 && t.tb.cycle == some 0) = true := by
  decide +kernel

/-- 2.9.6: h of 2,002 gives U of 1,001, and Expired. -/
def at296 : State :=
  timed { Timebase.reset with state := .holdover, cycle := some 10000000, holdover := some ⟨2001, 1000⟩ }

theorem test_period_end_expires : after (exec .adjustmentPeriodEnd at296) (fun t =>
    t.tb.state == .expired && t.tb.holdover == some ⟨2002, 1001⟩) = true := by decide +kernel

/-- 5.9.1: slot instant offsets at three formats. -/
theorem test_slot_instants :
    slotInstant { defaultProfile with packets := 350 } ⟨0, 0⟩ 2 = ⟨0, 1371⟩ ∧
      slotInstant defaultProfile ⟨0, 0⟩ 383 = ⟨0, 239375⟩ ∧
      slotInstant { defaultProfile with frameInterval := 10000, packets := 512 } ⟨0, 0⟩ 511 = ⟨0, 9980⟩ := by
  decide +kernel

/-- 4.7: the release instant of stamp 1,999 s + 7,400,000. -/
theorem test_release_instant : releaseOf defaultProfile ⟨1999, 7400000⟩ = ⟨2000, 2400000⟩ := by decide +kernel

/-- 1.9: the status byte of port B in its third frame. -/
def at19 : State :=
  { State.reset with
    tb := { Timebase.reset with state := .tracking }
    output := { Output.reset with state := .running }
    direction := ⟨some .b, none, some ⟨⟨0, 0⟩, none, false, ⟨2, 0⟩⟩⟩ }

theorem test_status_byte : statusByte at19 .b = 0x20 ∧
    after (exec (.frameError .b [0x02, 0x00, 0xFF]) at19) (fun t => statusByte t .b == 0x69) = true := by
  decide +kernel

/-! ### A break (6.8, 6.9, 8.7) -/

/-- Break 710 of 6.9, in Fetching. -/
def break710 : BreakRec :=
  { newBreak 710 .feed 21000 1250 1 [5001, 5002] with
    state := .fetching
    entries := [⟨5001, .ready, some 3000, 0, 0, none⟩, ⟨5002, .ready, some 1800, 0, 0, none⟩]
    total := some 4800 }

/-- A timeline whose timeline sequence is q. -/
def timelineAt (q : Seq) : Timeline := ⟨q, ⟨100, 0⟩, ⟨100, 240000⟩, q, 0, []⟩

/-- The state of 6.9: port A directs, record 0 holds break 710, the timeline sequence is 20,800. -/
def at69 : State :=
  { led with
    breaks := { BreakTable.reset with records := BreakTable.reset.records.set 0 (some break710) }
    store := { FrameStore.reset with timeline := some (timelineAt 20800) } }

/-- Create Break 800 of 6.9, with a window set. -/
def create800 (windows : BitVec 8) : BreakArgs := ⟨800, 21500, 100, windows, [7001]⟩

/-- Create Break 900 of 6.9. -/
def create900 : BreakArgs := ⟨900, 21200, 50, 1, [7002]⟩

/-- 6.9: the three commands. -/
theorem test_create_break :
    answerOf .a (.createBreak .a (createBytes (create800 9) false)) at69 = some (.conflict, []) ∧
      after (exec (.createBreak .a (createBytes (create800 8) false)) at69) (fun t =>
        (recOf t 1).any fun b => b.id == 800 && b.state == .pending && b.origin == .portA) = true ∧
      after (exec (.createBreak .a (createBytes create900 true)) at69) (fun t =>
        ((recOf t 0).any fun b => b.state == .abandoned && b.cause == some .cancelled && b.termSeq == some 20800) &&
          (recOf t 1).any fun b => b.id == 900) = true := by decide +kernel

/-- 8.7: the label windows of the example. -/
def windows87 : Tab 8 Window :=
  (((Tab.const 8 defaultWindow).set 0 ⟨true, .splice, 0x100, 0xFF0, true, 0x105⟩).set 1
    ⟨true, .splice, 0x120, 0xFFF, false, 0⟩).set 3 ⟨true, .drop, 0x300, 0xF00, false, 0⟩

/-- A packet of a label and a count. -/
def packet (label : BitVec 12) (count : BitVec 4) : ServicePacket := { nullPacket with label := label, continuity := count }

/-- 8.7: break 710 on air, with two advert packets of the filled extent left to read. -/
def at87 : State :=
  { State.reset with
    settings := { State.reset.settings with active := { defaultProfile with windows := windows87 } }
    breaks := { BreakTable.reset with
      records := BreakTable.reset.records.set 0
        (some { break710 with state := .onAir, replaced := 1000, emitted := 1000 }) }
    memory := { AdvertMemory.reset with
      queues := AdvertMemory.reset.queues.set 0 [.filled [packet 0x7A1 0, packet 0x7A2 6] 0, .reserved 128] }
    splice := { SpliceUnit.reset with continuity := [(0x101, 14), (0x120, 3)] } }

/-- 8.7: two replaced slots, an underrun, a dropped packet, a restamped pass packet, and a pass packet. -/
theorem test_spliced_frame :
    let r := spliceFrame true [packet 0x101 0, packet 0x101 0, packet 0x101 0, packet 0x310 0, packet 0x120 9,
      packet 0x130 9] at87
    r.1.map (fun p => (p.label, p.continuity)) =
        [(0x101, 15), (0x102, 6), (0xFFF, 0), (0xFFF, 0), (0x120, 4), (0x130, 9)] ∧
      r.2.splice.continuity = [(0x101, 15), (0x102, 6), (0x120, 4)] ∧ r.2.splice.dropped = 1 ∧
      (recOf r.2 0).any (fun b => b.replaced == 1003 && b.emitted == 1002 && b.underruns == 1) = true := by
  decide +kernel

/-- 8.7.1 and R136: what a window hits. -/
theorem test_labels_hit : labelHits ⟨true, .splice, 0x100, 0xFF0, true, 0x105⟩ 0x10F = true ∧
    labelHits ⟨true, .splice, 0x100, 0xFF0, true, 0x105⟩ 0x110 = false ∧
    labelHits ⟨true, .splice, 0, 0, false, 0⟩ 0xFFF = false := by decide

/-! ### Witnesses: sums, sequences, formats, steps -/

/-- The outcome is a next state with a property. -/
theorem next_of_after {o : Host.Outcome State Fault Refusal} {f : State → Bool} (h : after o f = true) :
    ∃ t, o = .next t ∧ f t = true := by
  cases o with
  | next t => exact ⟨t, rfl, h⟩
  | fault e => cases e
  | refused e => simp [after] at h

/-- The relations where their ranges meet, and a range of 5,000 frames across the wrap. -/
theorem witness_SequenceOrderAndRanges :
    (follows 1 0 && follows 32767 0 && !follows 32768 0 && !atOrAfter 32768 0 && atOrAfter 0 0 && follows 0 32769 &&
      !follows 0 0 && follows 4 65535) = true ∧
    inRange 3 0xFFFF 5000 = true ∧ (3 : Seq) = 0xFFFF + BitVec.ofNat 16 4 ∧ inRange 4999 0 5000 = true ∧
    inRange 5000 0 5000 = false ∧ rangesMeet 0xFFFF 1 0 1 = false ∧ rangesMeet 0xFFFF 2 0 1 = true := by decide

theorem witness_TimeSumsAndDifferences :
    timeDiff (addTicks ⟨5, 7⟩ (-21474836480000000)) ⟨5, 7⟩ = -21474836480000000 ∧
      timeDiff (addTicks ⟨5, 7⟩ 21474836479999999) ⟨5, 7⟩ = 21474836479999999 := by decide +kernel

/-- The state after reset with bytes kept of feed line 1, of the time-of-day line and of the incoming advert line. -/
def listening (feed tod advert : List Byte) : State := { State.reset with lines := ⟨⟨feed, []⟩, tod, advert⟩ }

/-- A header whose check fails. -/
def zeroHeader : List Byte := [0xC3, 0x5E] ++ List.replicate 18 0

/-- A Withdraw whose check fails. -/
def badWithdraw : RawMessage := ⟨0x14, [0, 0, 0, 5], 0⟩

/-- A packet; the longest arguments; a header after a lone C3, and one in two pieces; what may stand of a header. -/
theorem witness_FormatsGiveBackFields :
    payloadFits nullPacket = true ∧ (List.replicate 48 (7 : Byte)).length ≤ 48 ∧
    endsHeader (listening [0xC3] [] []) .one zeroHeader zeroHeader ∧
    endsHeader (listening [0xC3] [] []) .one (zeroHeader.drop 1) zeroHeader ∧
    ∀ x ∈ [([0x00], [0xC3, 0x00], []), ([0xC3], [0xC3], [0xC3]), (zeroHeader.tail.take 18, [], zeroHeader.take 19)],
      let bytes : List Byte := x.1
      let before : List Byte := x.2.1
      let part : List Byte := x.2.2
      (feedOf (listening [0xC3] [] []) .one).inProgress = none ∧ [0xC3] ++ bytes = before ++ part ∧ part.length < 20 ∧
        (part = [] ∨ part = [0xC3] ∨ part.take 2 = [0xC3, 0x5E]) ∧
        ∀ k, k < before.length → ((before ++ part).drop k).take 2 ≠ [0xC3, 0x5E] ∧ (before ++ part).drop k ≠ [0xC3] := by
  refine ⟨by decide +kernel, by decide, ⟨rfl, by decide +kernel, [0xC3], rfl, by decide +kernel⟩,
    ⟨rfl, by decide +kernel, [], rfl, by decide +kernel⟩, by decide +kernel⟩

/-- A time-of-day message after other bytes, and its first seven; a Withdraw whose check fails, and all of it but the last
byte; the four kinds of message at the limits of their fields. -/
theorem witness_FormatsGiveBackFields_lines :
    (let m := todBytes 1 0x100 0 0xA7
     isTodMessage m = true ∧ (listening [] [] []).lines.tod ++ ([0x00, 0xA4] ++ m) = [0x00, 0xA4] ++ m ∧
       (∀ b ∈ ([0x00, 0xA4] : List Byte), b ≠ 0xA5) ∧ (m.take 7).length < 8 ∧ (m.take 7).head? = some 0xA5 ∧
       (listening [] [0xA5] []).lines.tod ++ (m.take 7).drop 1 = m.take 7) ∧
    (let s := listening [] [] [0x14, 0]
     endsMessage s ((rawBytes badWithdraw).drop 2) badWithdraw ∧
       s.lines.advert ++ ((rawBytes badWithdraw).take 11).drop 2 = (rawBytes badWithdraw).take 11 ∧
       11 < (rawBytes badWithdraw).length) ∧
    (readyFits 1 = true ∧ readyFits 16777215 = true ∧ burstFits [] = true ∧ burstFits [nullPacket] = true) ∧
    ∀ message : List Byte, (listening [] [] []).lines.advert ++ message = message := by
  refine ⟨by decide +kernel, ⟨⟨by decide, rfl⟩, rfl, by decide⟩, by decide +kernel, fun _ => rfl⟩

/-- R6 and R8: a stream goes on at the third byte of a header that is not good, and after the marker of a message whose
check fails. -/
theorem test_streams_go_on :
    after (exec (.frameCompletion .one ([0xC3, 0x5E] ++ zeroHeader.take 18)) (listening [0x07] [] [])) (fun t =>
      t.lines.feeds.fst == zeroHeader.take 18 && (feedOf t .one).badFrames == 1) = true ∧
    after (exec (.timeOfDayMessage [0xA5, 1, 2, 0xA5, 3, 4, 5, 6]) (listening [] [0x07] [])) (fun t =>
      t.lines.tod == [0xA5, 3, 4, 5, 6] && t.tod == .invalid) = true := by decide +kernel

/-- R8, R9, R33 and R42: what has been received of a message or a frame goes at a Site Restart; what has been received on
a feed line goes at an Apply of N_p. -/
theorem test_received_bytes_abandoned :
    let s : State := { led with
      lines := ⟨⟨[0xC3], [0xC3]⟩, [0xA5], [0x14]⟩
      settings := { led.settings with staged := { defaultProfile with packets := 8 } } }
    after (exec (.restartSite .a []) s) (fun t => t.lines == Lines.reset) = true ∧
    after (exec (.applyStaged .a [0]) s) (fun t => t.lines == ⟨⟨[], []⟩, [0xA5], [0x14]⟩) = true := by decide +kernel

theorem witness_StepTakesFrontCommand :
    let s := { State.reset with pending := [.noOperation .b [], .fullReset] }
    s.pending = .noOperation .b [] :: [.fullReset] ∧ after (step s) (fun t => t.pending == [.fullReset]) = true := by
  decide +kernel

/-- An event is due; a cycle at an adjustment position; a cycle away from one, at a change of the seconds. -/
theorem witness_IdleStepTakesDueEvent :
    (at296.pending = [] ∧ dueEvents at296 ≠ []) ∧
    (let s := timed { Timebase.reset with adjust := 1, cycle := some 5000000 }
     s.pending = [] ∧ dueEvents s = [] ∧ atPosition s.tb = true) ∧
    (State.reset.pending = [] ∧ dueEvents State.reset = [] ∧ atPosition State.reset.tb = false) ∧
    after (step (timed { Timebase.reset with localTime := ⟨4294967295, 9999999⟩ })) (fun t => t.tb.secondsDue == 1) = true := by
  decide +kernel

/-! ### Witnesses: timebase -/

/-- A period done in Holdover beyond the limit, in Holdover at the limit of 1,000, in Free and in Slewing. -/
theorem witness_PeriodEndCountsAndChains :
    let in_ (st : TbState) (h : Option Holdover) (c : Int) : Timebase :=
      { Timebase.reset with state := st, cycle := some 10000000, holdover := h, carry := c, adjust := -2, applied := 2 }
    (∀ tb ∈ [in_ .holdover (some ⟨2001, 1000⟩) 99, in_ .holdover (some ⟨1999, 999⟩) (-99), in_ .free none 0,
        in_ .slewing none 5], tb.cycle = some 10000000 ∧ tb.applied = tb.adjust.natAbs) ∧
    after (exec .adjustmentPeriodEnd (timed (in_ .holdover (some ⟨2001, 1000⟩) 99))) (fun t =>
      t.tb.holdover == some ⟨2002, 1001⟩ && t.tb.state == .expired) = true ∧
    after (exec .adjustmentPeriodEnd (timed (in_ .holdover (some ⟨1999, 999⟩) (-99)))) (fun t =>
      t.tb.holdover == some ⟨2000, 1000⟩ && t.tb.state == .holdover && t.tb.cycle == some 0) = true := by
  decide +kernel

/-- The first gain of one, and the last loss of two. -/
theorem witness_AdjustmentGainsOrLosesTick :
    (let tb := { Timebase.reset with adjust := 1, cycle := some 5000000 }
     1 ≤ tb.adjust.natAbs ∧ tb.applied + 1 = 1 ∧ tb.cycle = some (1 * 10000000 / (tb.adjust.natAbs + 1))) ∧
    (let tb := { Timebase.reset with adjust := -2, applied := 1, cycle := some 6666666 }
     2 ≤ tb.adjust.natAbs ∧ tb.applied + 1 = 2 ∧ tb.cycle = some (2 * 10000000 / (tb.adjust.natAbs + 1))) := by decide

/-- A change of the seconds in Free with the output Running, and in Tracking. -/
def secondDue (st : TbState) : State :=
  { timed { Timebase.reset with state := st, secondsDue := 1 } with output := { Output.reset with state := .running } }

theorem witness_SecondsChangeEvaluatesTiming :
    (let s := secondDue .free
     s.tb.secondsDue = 0 + 1 ∧ s.tb.state = .free ∧ (monSetting s mon10).mode = .latch ∧
       (monRec s mon10).condition = false ∧ (monSetting s mon10).persistence ≤ (monRec s mon10).count + 1 ∧
       s.output.causes.fault = false ∧ s.output.state = .running) ∧
    (let s := secondDue .tracking
     s.tb.secondsDue = 0 + 1 ∧ s.tb.state = .tracking ∧ (monSetting s mon9).mode ≠ .off ∧
       (monSetting s mon10).mode ≠ .off ∧ muteHolds s mon4 = false ∧ (monRec s mon10).latched = false) := by
  decide +kernel

/-- A state whose timebase acquires, with tracked and U. -/
def acquiringAt (tracked : Bool) (u : BitVec 32) : State :=
  timed { Timebase.reset with state := .acquiring, tracked := tracked, holdover := some ⟨2 * u, u⟩, secondsDue := 1 }

/-- Each ground on which M10 is active, U above its limit by one among them; each on which it is not, U at the limit; and
M10 in FRAME with the persistence 1, the output Running without a cause. -/
theorem witness_SecondsChangeEvaluatesTiming_states :
    let running := secondDue .expired
    let frame : State := { running with settings := { running.settings with active :=
      { running.profile with monitors := running.profile.monitors.set mon10 ⟨.frame, 1⟩ } } }
    (∀ x ∈ [(secondDue .free, true), (secondDue .expired, true), (acquiringAt false 1000, true), (acquiringAt true 1001, true),
        (secondDue .tracking, false), (secondDue .slewing, false), (secondDue .holdover, false), (acquiringAt true 1000, false)],
      x.1.tb.secondsDue = 0 + 1 ∧ x.1.output.causes.fault = faultHolds x.1 ∧ x.1.profile.uncertainty = 1000 ∧
        after (exec .secondsChange x.1) (fun t => (monRec t mon10).condition == x.2) = true) ∧
    (frame.output.state = .running ∧ frame.output.causes.fault = faultHolds frame ∧
      frame.output.causes.fault = false) ∧
    after (exec .secondsChange frame) (fun t => faultHolds t && t.output.state == .muted && t.output.muteLine &&
      (portOf t.alerts.ports .b).marks.get srcMuted) = true ∧
    after (exec .secondsChange (secondDue .slewing)) (fun t => (monRec t mon9).count == 1) = true := by decide +kernel

/-- A message in two pieces, with its sum and the valid flag; one with a wrong sum. -/
theorem witness_TimeOfDayMessageIsHeld :
    let s := listening [] [0xA5] []
    (∀ x ∈ [todBytes 1 0x100 0 0xA7, todBytes 1 0x100 0 0xA6], s.lines.tod ++ x.drop 1 = [] ++ x) ∧
    (0xA7 : Byte) = ((todBytes 1 0x100 0 0xA7).take 7).sum ∧ (1 : Byte).getLsbD 0 = true ∧
      (0xA6 : Byte) ≠ ((todBytes 1 0x100 0 0xA6).take 7).sum := by decide

/-- In Slewing at a pulse with the expected label and a phase error, with an output state. -/
def slewing (st : OutState) (e : Int) : State :=
  { timed { tb291 with state := .slewing, localTime := addTicks ⟨500, 0⟩ (-e) } with
    tod := .accepted 500, output := { Output.reset with state := st } }

/-- The phase error at the threshold, early and late; in Slewing at the threshold and beyond it. -/
theorem witness_AcceptedPulseUpdatesLoop :
    (∀ k ∈ [(50 : Int), -50, 30],
      let s := { timed { tb291 with localTime := addTicks ⟨500, 0⟩ (-k) } with tod := .accepted 500 }
      s.tb.state = .tracking ∧ s.tod = .accepted 500 ∧ s.tb.expected = some 500 ∧
        k = timeDiff ⟨500, 0⟩ s.tb.localTime ∧ k.natAbs ≤ s.profile.threshold) ∧
    ∀ x ∈ [(OutState.running, (50 : Int), TbState.tracking, (5000 : Int)), (.muted, 1000, .slewing, 10000)],
      let s := slewing x.1 x.2.1
      (s.tb.state = .slewing ∧ s.tod = .accepted 500 ∧ s.tb.expected = some 500 ∧
        x.2.1 = timeDiff ⟨500, 0⟩ s.tb.localTime ∧ (s.output.state = .running ∨ s.output.state = .muted)) ∧
      after (exec .referencePulse s) (fun t => t.tb.state == x.2.2.1 && t.tb.phase == x.2.2.2) = true := by
  decide +kernel

/-- In Tracking one tick above the threshold, as the third outlier of a row; in Tracking with another label, as the
first; in Slewing with another label, as the second. -/
theorem witness_OutlierPulseCounts :
    let s := { at291 with tb := { tb291 with localTime := ⟨499, 9999949⟩, outlierRun := 2 } }
    let s1 := { at291 with tb := { tb291 with expected := some 501 } }
    let s2 := { at291 with tb := { tb291 with state := .slewing, expected := some 7, outlierRun := 1 } }
    (s.tod = .accepted 500 ∧ s.tb.expected = some 500 ∧ 51 = timeDiff ⟨500, 0⟩ s.tb.localTime ∧ s.tb.state = .tracking ∧
      s.profile.threshold < (51 : Int).natAbs ∧ s.tb.outlierRun = 2) ∧
    (s1.tod = .accepted 500 ∧ s1.tb.state = .tracking ∧ s1.tb.expected = some 501 ∧ s1.tb.outlierRun < 2) ∧
    s2.tod = .accepted 500 ∧ s2.tb.state = .slewing ∧ s2.tb.expected = some 7 ∧ s2.tb.outlierRun < 2 := by
  decide +kernel

/-- A slot in Held with a release instant. -/
def heldAt (q : Seq) (release : NetTime) (packets : List ServicePacket) : Slot :=
  .held ⟨q, release, .one, release⟩ 0 packets

/-- A state with slots 0 and 63 Held. -/
def holding (s : State) (first last : Slot) : State :=
  { s with store := { s.store with slots := (s.store.slots.set 0 first).set 63 last } }

/-- 2.9.2 in kind: acquisition completes with the output Idle, with a frame held at the guard margin in slot 0, and with
none; a pulse with the expected label in Slewing, the output Waiting. -/
theorem witness_AcquisitionStepsWhenStopped :
    let s0 : State := { at294 with output := Output.reset }
    let s := holding s0 (heldAt 7 ⟨500, 20000⟩ []) .free
    (∀ x ∈ [s0, s], x.tb.state = .acquiring ∧ x.tb.acquired = some 499 ∧ (500 : BitVec 32) = 499 + 1 ∧
      x.tod = .accepted 500 ∧ -12 = timeDiff ⟨500, 0⟩ x.tb.localTime ∧ x.output.state = .idle) ∧
    (∀ i, slotAt s0 i = .free) ∧
    (let x := slewing .waiting 1000
     x.tb.state = .slewing ∧ x.tb.expected = some 500 ∧ x.tod = .accepted 500 ∧ x.output.state = .waiting) ∧
    after (exec .referencePulse s) (fun t => slotAt t 0 == heldAt 7 ⟨500, 20000⟩ []) = true := by decide +kernel

/-- A pulse labelled 500 at the local time 500 s + 12, in a state with the first label counted. -/
def acquiring (st : TbState) (first : Option (BitVec 32)) : State :=
  { at294 with tb := { at294.tb with state := st, acquired := first } }

/-- A first pulse in Free, Holdover and Expired, and in Acquiring with no label counted and with one that it does not
follow; completion on air within the threshold, and beyond it with the output Muted. -/
theorem witness_AcquisitionStepsWhenStopped_pulses :
    (∀ x ∈ [acquiring .free none, acquiring .holdover none, acquiring .expired none, acquiring .acquiring none,
        acquiring .acquiring (some 7)],
      x.tod = .accepted 500 ∧ (x.tb.state = .free ∨ x.tb.state = .holdover ∨ x.tb.state = .expired ∨
        (x.tb.state = .acquiring ∧ (x.tb.acquired = none ∨ x.tb.acquired = some 7) ∧ (500 : BitVec 32) ≠ 7 + 1)) ∧
      after (exec .referencePulse x) (fun t => t.tb.state == .acquiring && t.tb.acquired == some 500) = true) ∧
    (at294.tb.state = .acquiring ∧ at294.tb.acquired = some 499 ∧ at294.tod = .accepted 500 ∧
      at294.output.state = .running) ∧
    (let s : State := { at294 with
       tb := { at294.tb with localTime := ⟨500, 51⟩ }, output := { Output.reset with state := .muted } }
     s.tb.state = .acquiring ∧ s.tb.acquired = some 499 ∧ s.tod = .accepted 500 ∧ s.output.state = .muted ∧
       after (exec .referencePulse s) (fun t => t.tb.state == .slewing && t.tb.phase == -5100) = true) := by
  decide +kernel

/-- The deadline of a missing pulse, reached exactly. -/
def missAt (st : TbState) (run : Counter) : State :=
  timed { tb291 with state := st, localTime := ⟨501, 1000⟩, missDeadline := some ⟨501, 1000⟩, missRun := run }

/-- The first missing pulse of a row and the third, by the deadline and by a pulse with no message or an invalid one; in
Acquiring; and a pulse with no message in Free. -/
theorem witness_MissingPulseLeadsToHoldover :
    (∀ s ∈ [missAt .tracking 0, missAt .slewing 2, missAt .acquiring 0],
      s.tb.missDeadline = some ⟨501, 1000⟩ ∧ 0 ≤ timeDiff s.tb.localTime ⟨501, 1000⟩ ∧ s.tod = .none ∧
      ({ s with tod := .invalid } : State).tod = .invalid ∧
      (s.tb.state = .tracking ∨ s.tb.state = .slewing ∨ s.tb.state = .acquiring)) ∧
    (satInc (missAt .tracking 0).tb.missRun).toNat < (missAt .tracking 0).profile.missCount ∧
    (missAt .slewing 2).profile.missCount ≤ (satInc (missAt .slewing 2).tb.missRun).toNat ∧
    after (exec .referencePulse (missAt .tracking 2)) (fun t => t.tb.state == .holdover) = true ∧
    (missAt .free 0).tb.state = .free ∧ (missAt .free 0).tod = .none ∧
    after (exec .referencePulse (missAt .free 0)) (fun t => t.tb.missing == 1 && t.tb.state == .free) = true := by
  decide +kernel

/-! ### Witnesses: feed inputs, Frame Store -/

/-- A header of a version, a network id, a sequence and a cue count, with the packet count 8 and the stamp 0. -/
def headerOf (version : Byte) (network q cues : Nat) : List Byte :=
  let covered := [0xC3, 0x5E, version] ++ beBytes 2 network ++ beBytes 2 q ++ beBytes 4 0 ++ beBytes 4 0 ++ beBytes 2 8 ++
    beBytes 1 cues
  covered ++ beBytes 2 (crc16 covered).toNat

/-- The header of sequence 600, with no cue. -/
def header600 : List Byte := headerOf 1 0 600 0

/-- The bytes of eight null packets. -/
def eightPackets : List Byte := (List.replicate 8 (packetBytes nullPacket)).flatten

/-- The frame check of a header with the cue records and packets behind it. -/
def checkOf (header behind : List Byte) : BitVec 32 := crc32 (header.drop 3 ++ behind)

/-- The frame check of sequence 600 with eight null packets. -/
def check600 : BitVec 32 := checkOf header600 eightPackets

/-- What follows a header: cue records and packets, and a frame check. -/
def restOf (behind : List Byte) (check : BitVec 32) : List Byte := behind ++ beBytes 4 check.toNat

/-- A reset state with eight packets in a frame, a loss count, and input 1 in a state. -/
def fed (loss : Nat) (f : FeedInput) : State :=
  { State.reset with
    settings := { State.reset.settings with active := { defaultProfile with packets := 8, loss := loss } }
    feeds := { State.reset.feeds with fst := f } }

/-- An input in Locked. -/
def lockedFeed : FeedInput := { FeedInput.reset ⟨0, 960000⟩ with acq := .locked, goodRun := 3 }

/-- On an input with no frame past its header and no bytes kept, the twenty bytes of a header end it. -/
theorem endsHeader_of {s : State} {h : List Byte}
    (hs : (feedOf s .one).inProgress = none ∧ isHeader h = true ∧ inputOf s.lines.feeds .one = []) :
    endsHeader s .one h h := ⟨hs.1, hs.2.1, [], by rw [hs.2.2], by simp⟩

/-- A header that is not offered; one that is stored in slot 0; one that is a copy; one refused by a full store. -/
theorem witness_HeaderIsOfferedToStore :
    let h := header600
    let s1 := fed 8 (FeedInput.reset ⟨0, 960000⟩)
    let s2 := fed 8 lockedFeed
    let s3 := holding s2 .free (heldAt 600 ⟨1, 0⟩ [])
    let s4 := { s2 with store := { s2.store with slots := Tab.const 64 (heldAt 599 ⟨1, 0⟩ []) } }
    (∀ s ∈ [s1, s2, s3, s4], endsHeader s .one h h) ∧ headerSeq h = 600 ∧
    (∀ s ∈ [s1, s2, s3, s4], headerFault s.profile h = none) ∧
    ((feedOf s1 .one).acq ≠ .locked ∧ (feedOf s1 .one).acq ≠ .impaired) ∧
    (∀ s ∈ [s2, s3, s4], (feedOf s .one).acq = .locked ∧ s.profile.pathMode = .merge) ∧
    (∀ j, (slotAt s2 j).carries 600 = false) ∧ slotAt s2 0 = .free ∧
    (slotAt s3 63).carries 600 = true ∧ (∀ j, (slotAt s4 j).carries 600 = false ∧ slotAt s4 j ≠ .free) := by
  intro h s1 s2 s3 s4
  have p : ∀ s ∈ [s1, s2, s3, s4], (feedOf s .one).inProgress = none ∧ isHeader h = true ∧
      inputOf s.lines.feeds .one = [] := by decide +kernel
  exact ⟨fun s hs => endsHeader_of (p s hs), by decide +kernel⟩

/-- Headers with a wrong check, of another version and of a foreign network; a silence deadline reached exactly. -/
theorem witness_BadFramesMoveAcquisition :
    let s := fed 8 lockedFeed
    (∀ x ∈ [(header600.set 19 0, BadCause.headerCheck), (headerOf 2 0 600 0, .version), (headerOf 1 9 600 0, .networkId)],
      endsHeader s .one x.1 x.1 ∧ headerFault s.profile x.1 = some x.2) ∧
    0 ≤ timeDiff (⟨0, 960000⟩ : NetTime) (feedOf s .one).silenceDeadline ∧
    after (exec (.silenceInterval .one) { s with tb := { s.tb with localTime := ⟨0, 960000⟩ } }) (fun t =>
      (feedOf t .one).acq == .impaired && (feedOf t .one).badFrames == 1) = true := by
  intro s
  have p : ∀ x ∈ [(header600.set 19 0, BadCause.headerCheck), (headerOf 2 0 600 0, .version),
      (headerOf 1 9 600 0, .networkId)], ((feedOf s .one).inProgress = none ∧ isHeader x.1 = true ∧
      inputOf s.lines.feeds .one = []) ∧ headerFault s.profile x.1 = some x.2 := by decide +kernel
  exact ⟨fun x hx => ⟨endsHeader_of (p x hx).1, (p x hx).2⟩, by decide +kernel⟩

/-- An input in Locked with the header of sequence 600 in progress, of a fate. -/
def receiving (loss : Nat) (fate : Fate) : State :=
  fed loss { lockedFeed with inProgress := some ⟨header600, fate⟩ }

/-- The body of a frame with cues and eight null packets. -/
def bodyOf (cues : List Cue) (check : BitVec 32) : FrameBody := ⟨cues, List.replicate 8 nullPacket, check⟩

theorem eightPackets_length : eightPackets.length = 1504 := by decide +kernel

theorem packets_in_front : ∀ (n : Nat) (a b : List Byte), a.length = 188 * n →
    packetsOfBytes n (a ++ b) = packetsOfBytes n a
  | 0, _, _, _ => rfl
  | n + 1, a, b, h => by
    simp only [packetsOfBytes, List.take_append_of_le_length (show 188 ≤ a.length by omega),
      List.drop_append_of_le_length (show 188 ≤ a.length by omega)]
    rw [packets_in_front n (a.drop 188) b (by simp; omega)]

theorem beNat_check (c : BitVec 32) : beNat (beBytes 4 c.toNat) = c.toNat := by
  have := c.isLt
  simp [beNat, beBytes]
  omega

/-- A header's frame of cues and eight null packets ends with its frame check. -/
theorem frame_body {h cueBytes : List Byte} {cues : List Cue} (check : BitVec 32) (h8 : field h 15 2 = 8)
    (hc : ∀ tail, cuesOfBytes (field h 17 1) (cueBytes ++ tail) = some (cues, tail)) :
    frameBody h (restOf (cueBytes ++ eightPackets) check) = some (bodyOf cues check) := by
  have hp : packetsOfBytes 8 eightPackets = List.replicate 8 nullPacket := by decide +kernel
  have hl : (beBytes 4 check.toNat).length = 4 := rfl
  have hf : field (eightPackets ++ beBytes 4 check.toNat) 1504 4 = check.toNat := by
    rw [field, List.drop_left' eightPackets_length, List.take_of_length_le (by simp [hl]), beNat_check]
  simp [frameBody, hc, h8, restOf, bodyOf, eightPackets_length, hl, hf, packets_in_front 8 eightPackets _ eightPackets_length,
    hp]

/-- With the CRC-32 of what it covers a frame is good; with another frame check it is bad. -/
theorem frame_fault (h behind : List Byte) (cues : List Cue) (check : BitVec 32) :
    bodyFault h (restOf behind check) (bodyOf cues check) = if check = checkOf h behind then none else some .frameCheck := by
  have hl : (beBytes 4 check.toNat).length = 4 := rfl
  have hc : crc32 (frameCovered h (restOf behind check)) = checkOf h behind := by
    simp only [frameCovered, restOf, List.length_append, hl, Nat.add_sub_cancel, List.take_left', checkOf]
  have hs : (bodyOf cues check).packets.any (·.sync != 0x5A) = false := by
    show (List.replicate 8 nullPacket).any (·.sync != 0x5A) = false
    decide
  unfold bodyFault
  rw [hc, hs]
  show (if checkOf h behind ≠ check then _ else _) = _
  by_cases e : check = checkOf h behind
  · simp [e]
  · simp [e, Ne.symm e]

/-- The frame of sequence 600 ends on an input where it is in progress and no bytes are kept. -/
theorem frame600_ends {s : State} {fate : Fate} (check : BitVec 32)
    (hs : (feedOf s .one).inProgress = some ⟨header600, fate⟩ ∧ inputOf s.lines.feeds .one = []) :
    endsFrame s .one (restOf eightPackets check) ⟨header600, fate⟩ (restOf eightPackets check) (bodyOf [] check) := by
  refine ⟨hs.1, by rw [hs.2, List.nil_append], ?_⟩
  have h0 : field header600 17 1 = 0 := by decide +kernel
  have h8 : field header600 15 2 = 8 := by decide +kernel
  exact frame_body (cueBytes := []) check h8 fun tail => by rw [h0]; rfl

/-- The frame of sequence 600 is good with its frame check, and bad with another. -/
theorem frame600_fault (check : BitVec 32) : bodyFault header600 (restOf eightPackets check) (bodyOf [] check) =
    if check = check600 then none else some .frameCheck := frame_fault header600 eightPackets [] check

/-- A frame past its header that ends bad, from each state of acquisition: stored with its slot in Filling and with none,
and one that is not stored. -/
theorem witness_BadFramesMoveAcquisition_body :
    let s (acq : AcqState) (fate : Fate) : State := fed 8 { lockedFeed with acq := acq, inProgress := some ⟨header600, fate⟩ }
    let filling (acq : AcqState) : State := { s acq .stored with store := { (s acq .stored).store with
      slots := (s acq .stored).store.slots.set 5 (.filling ⟨600, ⟨0, 0⟩, .one, ⟨0, 20000⟩⟩ true) } }
    (∀ check, ∀ acq ∈ [AcqState.searching, .verifying, .locked, .impaired, .lost], (∀ fate ∈ [Fate.stored, .copy],
        endsFrame (s acq fate) .one (restOf eightPackets check) ⟨header600, fate⟩ (restOf eightPackets check)
          (bodyOf [] check)) ∧
      endsFrame (filling acq) .one (restOf eightPackets check) ⟨header600, .stored⟩ (restOf eightPackets check)
        (bodyOf [] check)) ∧
    bodyFault header600 (restOf eightPackets (check600 + 1)) (bodyOf [] (check600 + 1)) = some .frameCheck ∧
    (∀ acq ∈ [AcqState.searching, .verifying, .locked, .impaired, .lost],
      fillingOf (s acq .stored) .one (headerSeq header600) = none ∧
      fillingOf (filling acq) .one (headerSeq header600) = some 5) := by
  intro s filling
  have p : ∀ acq ∈ [AcqState.searching, .verifying, .locked, .impaired, .lost],
      (∀ fate ∈ [Fate.stored, .copy], (feedOf (s acq fate) .one).inProgress = some ⟨header600, fate⟩ ∧
        inputOf (s acq fate).lines.feeds .one = []) ∧
      ((feedOf (filling acq) .one).inProgress = some ⟨header600, .stored⟩ ∧
        inputOf (filling acq).lines.feeds .one = []) := by decide +kernel
  exact ⟨fun check acq ha => ⟨fun fate hf => frame600_ends check ((p acq ha).1 fate hf), frame600_ends check (p acq ha).2⟩,
    by simp [frame600_fault], by decide +kernel⟩

/-- The frame of sequence 600, all of it, and all but the last byte. -/
theorem witness_FormatsGiveBackFields_frame :
    let rest := restOf eightPackets check600
    endsFrame (receiving 8 .stored) .one rest ⟨header600, .stored⟩ rest (bodyOf [] check600) ∧
    1507 < rest.length ∧ inputOf (receiving 8 .stored).lines.feeds .one ++ rest.take 1507 = rest.take 1507 :=
  ⟨frame600_ends _ (by decide +kernel), by
    show 1507 < (eightPackets ++ beBytes 4 _).length
    rw [List.length_append, eightPackets_length]
    decide, rfl⟩

/-- Locked with a frame in progress that ends well and badly, and with none, at the loss counts 1 and 2. -/
theorem witness_LockedInputAtFrameEvents : ∀ loss ∈ [1, 2],
    (let s := receiving loss .stored
     (feedOf s .one).acq = .locked ∧ ∀ check, endsFrame s .one (restOf eightPackets check) ⟨header600, .stored⟩
       (restOf eightPackets check) (bodyOf [] check)) ∧
    (let s := fed loss lockedFeed
     endsHeader s .one (headerOf 2 0 600 0) (headerOf 2 0 600 0) ∧ headerFault s.profile (headerOf 2 0 600 0) ≠ none ∧
       (feedOf s .one).acq = .locked ∧ s.profile.loss = loss) := by
  have p : ∀ loss ∈ [1, 2], (feedOf (receiving loss .stored) .one).acq = .locked ∧
      ((feedOf (receiving loss .stored) .one).inProgress = some ⟨header600, .stored⟩ ∧
        inputOf (receiving loss .stored).lines.feeds .one = []) ∧
      (let s := fed loss lockedFeed
       ((feedOf s .one).inProgress = none ∧ isHeader (headerOf 2 0 600 0) = true ∧ inputOf s.lines.feeds .one = []) ∧
         headerFault s.profile (headerOf 2 0 600 0) ≠ none ∧ (feedOf s .one).acq = .locked ∧ s.profile.loss = loss) := by
    decide +kernel
  exact fun loss hl => ⟨⟨(p loss hl).1, fun check => frame600_ends check (p loss hl).2.1⟩, endsHeader_of (p loss hl).2.2.1,
    (p loss hl).2.2.2⟩

theorem witness_LockedInputAtFrameEvents_checks :
    bodyFault header600 (restOf eightPackets check600) (bodyOf [] check600) = none ∧
    bodyFault header600 (restOf eightPackets (check600 + 1)) (bodyOf [] (check600 + 1)) ≠ none :=
  ⟨by simp [frame600_fault], by simp [frame600_fault]⟩

/-- Port A directs with the path mode Select. -/
def selecting : State :=
  { led with settings := { led.settings with active := { defaultProfile with pathMode := .select } } }

theorem witness_ForcePathSwitches :
    (led.direction.director = some .a ∧ led.profile.pathMode = .merge) ∧
    (selecting.direction.director = some .a ∧ selecting.profile.pathMode = .select ∧ selecting.merge.active = .one) ∧
    after (exec (.forcePath .a [2]) selecting) (fun t => t.merge == ⟨.two, none, 1⟩) = true := by decide +kernel

/-- The frame of sequence 600 stored in slot 5 with a release instant, at local time 0. -/
def storing (release : NetTime) (tl : Option Timeline) : State :=
  let s := receiving 8 .stored
  { s with store := { s.store with
    slots := s.store.slots.set 5 (.filling ⟨600, ⟨0, 0⟩, .one, release⟩ false)
    timeline := tl } }

/-- A timeline that gives sequence 600 the time of 480,000 ticks, and of some more. -/
def tl599 (more : Int) : Timeline := ⟨599, addTicks ⟨0, 240000⟩ more, addTicks ⟨0, 240000⟩ more, 598, 0, []⟩

/-- The margins at their limits; on the timeline, one and two intervals later, and one tick earlier. -/
theorem witness_StoredFrameCompletes :
    (∀ x ∈ [((⟨0, 19999⟩ : NetTime), none), (⟨0, 20000⟩, none), (⟨1, 4400000⟩, none), (⟨1, 4400001⟩, none),
        (⟨0, 480000⟩, some (tl599 0)), (⟨0, 720000⟩, some (tl599 0)), (⟨0, 960000⟩, some (tl599 0)),
        (⟨0, 480000⟩, some (tl599 1))],
      let s := storing x.1 x.2
      endsFrame s .one (restOf eightPackets check600) ⟨header600, .stored⟩ (restOf eightPackets check600)
        (bodyOf [] check600) ∧
      fillingOf s .one (headerSeq header600) = some 5 ∧ slotAt s 5 = .filling ⟨600, ⟨0, 0⟩, .one, x.1⟩ false ∧
      (∀ k, (slotAt s k).carries (headerSeq header600) = false) ∧ 0 < s.profile.frameInterval) ∧
    bodyFault header600 (restOf eightPackets check600) (bodyOf [] check600) = none ∧
    timeDiff ⟨0, 20000⟩ ⟨0, 0⟩ = defaultProfile.guardMargin ∧
    timeDiff ⟨1, 4400000⟩ ⟨0, 0⟩ = 60 * defaultProfile.frameInterval ∧
    timeDiff ⟨0, 480000⟩ (boundaryTime 240000 (tl599 0) 600) = 0 ∧
    timeDiff ⟨0, 720000⟩ (boundaryTime 240000 (tl599 0) 600) = (1 * 240000 : Nat) ∧
    timeDiff ⟨0, 960000⟩ (boundaryTime 240000 (tl599 0) 600) = (2 * 240000 : Nat) ∧
    timeDiff ⟨0, 480000⟩ (boundaryTime 240000 (tl599 1) 600) = -1 := by
  have p : ∀ x ∈ [((⟨0, 19999⟩ : NetTime), none), (⟨0, 20000⟩, none), (⟨1, 4400000⟩, none), (⟨1, 4400001⟩, none),
      (⟨0, 480000⟩, some (tl599 0)), (⟨0, 720000⟩, some (tl599 0)), (⟨0, 960000⟩, some (tl599 0)),
      (⟨0, 480000⟩, some (tl599 1))],
      let s := storing x.1 x.2
      ((feedOf s .one).inProgress = some ⟨header600, .stored⟩ ∧ inputOf s.lines.feeds .one = []) ∧
      fillingOf s .one (headerSeq header600) = some 5 ∧ slotAt s 5 = .filling ⟨600, ⟨0, 0⟩, .one, x.1⟩ false ∧
      (∀ k, (slotAt s k).carries (headerSeq header600) = false) ∧ 0 < s.profile.frameInterval := by decide +kernel
  exact ⟨fun x hx => ⟨frame600_ends _ (p x hx).1, (p x hx).2⟩, by simp [frame600_fault], by decide +kernel⟩

/-- Whole intervals later, with no Held or Emitting slot whose sequence is not followed, and with one. -/
theorem witness_StoredFrameCompletes_gap :
    let s := storing ⟨0, 720000⟩ (some (tl599 0))
    let s1 := { s with store := { s.store with slots := s.store.slots.set 63 (heldAt 601 ⟨0, 720000⟩ []) } }
    (∀ k, (slotAt s k).check? = none) ∧
    (∀ k, (slotAt s1 k).carries 600 = false) ∧ (slotAt s1 63).info?.any (fun x => !follows 600 x.seq) = true ∧
    (slotAt s1 63).check? ≠ none ∧ follows 600 (tl599 0).anchorSeq = true := by decide +kernel

/-- Log 43: whole intervals later, beside a held sequence at 32,768, which neither follows 600 nor is followed by it. -/
theorem test_continuity_at_half :
    let s := storing ⟨0, 720000⟩ (some (tl599 0))
    let s1 := { s with store := { s.store with slots := s.store.slots.set 63 (heldAt 33368 ⟨0, 720000⟩ []) } }
    (follows 600 33368 || follows 33368 600) = false ∧ followsAll s1 600 = false ∧
    (let t := continuityCheck 5 ⟨600, ⟨0, 0⟩, .one, ⟨0, 720000⟩⟩ 0 [] s1
     slotAt t 5 = .free ∧ t.store.timeline = s1.store.timeline ∧ (monRec t mon8).events = 1) := by decide +kernel

/-- The frame of sequence 600 held in slot 63 with a frame check. -/
def held600 (s : State) (check : BitVec 32) : State :=
  { s with store := { s.store with slots := s.store.slots.set 63 (.held ⟨600, ⟨0, 0⟩, .two, ⟨1, 0⟩⟩ check []) } }

/-- A copy and a stored frame whose sequence is held, with an equal frame check and with another; a copy of a frame that
is held no longer; a frame not offered, one refused, and one whose slot is Filling no longer. -/
theorem witness_StoredFrameCompletes_fates :
    (∀ check, ∀ s ∈ [receiving 8 .copy, storing ⟨0, 480000⟩ none], carriedBy (held600 s check) 600 63 check) ∧
    (∀ check, fillingOf (held600 (storing ⟨0, 480000⟩ none) check) .one 600 = some 5) ∧ check600 + 1 ≠ check600 ∧
    (∀ fate ∈ [Fate.notOffered, .refused, .copy, .stored], ∀ check,
      endsFrame (receiving 8 fate) .one (restOf eightPackets check) ⟨header600, fate⟩ (restOf eightPackets check)
        (bodyOf [] check)) ∧
    (∀ k, (slotAt (receiving 8 .copy) k).carries 600 = false) ∧ fillingOf (receiving 8 .stored) .one 600 = none := by
  have free : ∀ s ∈ [receiving 8 .copy, storing ⟨0, 480000⟩ none], ∀ j : Fin 64, j < 63 →
      (slotAt (held600 s 0) j).carries 600 = false := by decide +kernel
  have p : ∀ fate ∈ [Fate.notOffered, .refused, .copy, .stored],
      (feedOf (receiving 8 fate) .one).inProgress = some ⟨header600, fate⟩ ∧
        inputOf (receiving 8 fate).lines.feeds .one = [] := by decide +kernel
  have any_check (s : State) (check : BitVec 32) (j : Fin 64) (hj : j < 63) :
      slotAt (held600 s check) j = slotAt (held600 s 0) j := by
    have : (63 : Nat) ≠ j.val := by omega
    simp [slotAt, held600, Tab.get, Tab.set, this]
  have at63 (s : State) (check : BitVec 32) :
      slotAt (held600 s check) 63 = .held ⟨600, ⟨0, 0⟩, .two, ⟨1, 0⟩⟩ check [] := by
    simp [slotAt, held600, Tab.get, Tab.set]
  refine ⟨fun check s hs => ⟨by rw [at63]; rfl, by rw [at63]; rfl, fun j hj => by rw [any_check s check j hj, free s hs j hj]⟩,
    fun check => by rfl, by simp, fun fate hf check => frame600_ends check (p fate hf), by decide +kernel, by decide +kernel⟩

/-- An Announce of break 800 for every zone, and a cue of no kind. -/
def twoCues : List Byte :=
  [1, 1, 0xFF, 0xFF, 3, 32, 83, 252, 0, 100, 8, 0, 0, 0, 27, 89] ++ [9, 0, 0xFF, 0xFF, 0, 5, 0, 0, 0, 1, 1, 0]

/-- The Announce of `twoCues`. -/
def announce800 : Cue := ⟨1, 1, 0xFFFF, 800, 21500, 100, 8, 0, [7001]⟩

/-- The other cue of `twoCues`. -/
def badCue : Cue := ⟨9, 0, 0xFFFF, 5, 0, 1, 1, 0, []⟩

/-- The header of sequence 600 with two cues. -/
def headerCues : List Byte := headerOf 1 0 600 2

/-- Its frame check. -/
def checkCues : BitVec 32 := checkOf headerCues (twoCues ++ eightPackets)

/-- The frame of sequence 600 with two cues ends on an input where it is in progress and no bytes are kept. -/
theorem frameCues_ends {s : State} {fate : Fate} (check : BitVec 32)
    (hs : (feedOf s .one).inProgress = some ⟨headerCues, fate⟩ ∧ inputOf s.lines.feeds .one = []) :
    endsFrame s .one (restOf (twoCues ++ eightPackets) check) ⟨headerCues, fate⟩
      (restOf (twoCues ++ eightPackets) check) (bodyOf [announce800, badCue] check) := by
  refine ⟨hs.1, by rw [hs.2, List.nil_append], ?_⟩
  have h2 : field headerCues 17 1 = 2 := by decide +kernel
  have h8 : field headerCues 15 2 = 8 := by decide +kernel
  refine frame_body check h8 fun tail => ?_
  rw [h2]
  simp [cuesOfBytes, twoCues, field, beNat, cueOfBytes, segmentIds, announce800, badCue]

/-- A good frame with a valid and an invalid cue, on an input in Verifying whose next good frame locks it, in Select with
the other input active and Lost; and in Locked as the preferred input, proving, with the hold-off of 3. -/
theorem witness_StoredFrameCompletes_cues :
    let profile : Profile := { defaultProfile with packets := 8, pathMode := .select, revertive := true, holdOff := 3 }
    let one : FeedInput := { FeedInput.reset ⟨0, 960000⟩ with inProgress := some ⟨headerCues, .stored⟩ }
    let s (f : FeedInput) (merge : PathMerge) : State := { State.reset with
      settings := { State.reset.settings with active := profile }
      feeds := ⟨f, { FeedInput.reset ⟨0, 960000⟩ with acq := .lost }⟩
      merge := merge }
    let s1 := s { one with acq := .verifying, goodRun := 2 } ⟨.two, none, 0⟩
    let s2 := s { one with acq := .locked } ⟨.two, some 2, 0⟩
    (∀ x ∈ [s1, s2], ∀ check, endsFrame x .one (restOf (twoCues ++ eightPackets) check) ⟨headerCues, .stored⟩
      (restOf (twoCues ++ eightPackets) check) (bodyOf [announce800, badCue] check)) ∧
    bodyFault headerCues (restOf (twoCues ++ eightPackets) checkCues) (bodyOf [announce800, badCue] checkCues) = none ∧
    (cueValid announce800 && !cueValid badCue) = true ∧
    ((s1.profile.pathMode = .select ∧ s1.merge.active ≠ .one ∧ (feedOf s1 .two).acq = .lost ∧
        (feedOf s1 .one).acq ≠ .locked ∧ s1.profile.verify ≤ (satInc (feedOf s1 .one).goodRun).toNat) ∧
      s2.profile.revertive = true ∧ s2.profile.preferred = .one ∧ provenRuns .locked .locked s2.merge.revert = some 3 ∧
      s2.profile.holdOff ≤ (3 : Counter).toNat) := by
  intro profile one s s1 s2
  have p : ∀ x ∈ [s1, s2], (feedOf x .one).inProgress = some ⟨headerCues, .stored⟩ ∧ inputOf x.lines.feeds .one = [] := by
    decide +kernel
  exact ⟨fun x hx check => frameCues_ends check (p x hx),
    by rw [frame_fault, if_pos (show checkCues = checkOf headerCues (twoCues ++ eightPackets) from rfl)], by decide +kernel⟩

/-- A release instant 32,000 intervals behind and ahead of local time, at the shortest and the longest interval. -/
theorem witness_AnchoredTimelineGrid : ∀ x ∈ [(10000, (32000 : Int)), (10000, -32000), (1000000, 32000), (1000000, -32000)],
    timeDiff (addTicks ⟨9, 5⟩ (x.2 * (x.1 : Nat))) ⟨9, 5⟩ = x.2 * x.1 ∧ 10000 ≤ x.1 ∧ x.1 ≤ 1000000 := by decide +kernel

/-! ### Witnesses: Emission Output -/

/-- An output state with an exciter cause, at the next boundary of a timeline. -/
def bounded (st : OutState) (exciter : Bool) (tl : Timeline) : State :=
  { State.reset with
    tb := { Timebase.reset with localTime := tl.nextBoundary }
    output := { Output.reset with state := st, causes := ⟨false, false, exciter⟩ }
    store := { FrameStore.reset with timeline := some tl } }

/-- The timeline before sequence 601. -/
def tl600 : Timeline := timelineAt 600

/-- Waiting and Idle at a boundary of a sequence and at a gap boundary, with a frame Held for this boundary (slot 0) and
one for an earlier time (slot 63). -/
theorem witness_BoundaryWhileStopped :
    let slots (s : State) := holding s (heldAt 601 tl600.nextBoundary []) (heldAt 600 (addTicks tl600.nextBoundary (-1)) [])
    let s := slots (bounded .waiting true tl600)
    (∀ x ∈ [s, slots (bounded .idle false tl600), slots (bounded .waiting false { tl600 with runningGaps := 1 })],
      (∃ tl ∈ x.store.timeline, 0 ≤ timeDiff x.tb.localTime tl.nextBoundary) ∧ x.settings.apply = .none ∧
        (x.output.state = .idle ∨ x.output.state = .waiting)) ∧
    (fixCarry s.profile.frameInterval tl600).1 = some 601 ∧
    (fixCarry s.profile.frameInterval { tl600 with runningGaps := 1 }).1 = none ∧
    after (exec (.boundary true) s) (fun t => t.output.state == .running && slotAt t 63 == .free &&
      slotAt t 0 == slotAt s 0) = true ∧
    after (exec (.boundary false) s) (fun t => t.output.state == .muted) = true := by decide +kernel

/-- An output state at the boundary of sequence 601, with the frame of this sequence held in slot 63 and a late one held in
slot 0. -/
def delivering (st : OutState) : State :=
  holding (bounded st false tl600) (heldAt 600 (addTicks tl600.nextBoundary (-1)) [])
    (heldAt 601 tl600.nextBoundary (List.replicate 2 nullPacket))

/-- Running at a gap boundary and at one whose frame is missing; Running and Muted at one whose frame is held. -/
theorem witness_BoundaryWhileRunning :
    let gap := bounded .running true { tl600 with gaps := [⟨601, 2⟩] }
    let missing := bounded .running false tl600
    (∀ s ∈ [gap, missing, delivering .running, delivering .muted],
      0 ≤ timeDiff s.tb.localTime tl600.nextBoundary ∧ s.settings.apply = .none ∧
      (s.output.state = .running ∨ s.output.state = .muted)) ∧
    missing.store.timeline = some tl600 ∧ (delivering .muted).store.timeline = some tl600 ∧
    (fixCarry 240000 { tl600 with gaps := [⟨601, 2⟩] }).1 = none ∧ (fixCarry 240000 tl600).1 = some 601 ∧
    heldOf missing 601 = none ∧ heldOf (delivering .muted) 601 = some 63 ∧
    (∀ w, (windowAt (delivering .muted) w).enable = false) ∧
    pastCount (delivering .muted) tl600.nextBoundary (some 63) = 1 ∧
    after (exec (.boundary true) gap) (fun t => t.output.interval.any fun v => v.kind == .gap) = true ∧
    ∀ st, slotAt (delivering st) 63 = heldAt 601 tl600.nextBoundary (List.replicate 2 nullPacket) := by
  and_intros
  all_goals first | exact fun _ => by rfl | decide +kernel

/-- Back in Running from Muted with no cause left; Running with no exciter ready; Muted with the Command cause: the
interval is withheld. -/
theorem witness_BoundaryWhileRunning_muted :
    let s := delivering .muted
    let m : State := { s with output := { s.output with causes := ⟨true, false, false⟩ } }
    (noCause ⟨s.output.causes.command, s.output.causes.fault, !true⟩ = true ∧
      noCause ⟨m.output.causes.command, m.output.causes.fault, !true⟩ = false) ∧
    (OutputInv s ∧ OutputInv m ∧ OutputInv (delivering .running)) ∧
    after (exec (.boundary true) s) (fun t => t.output.state == .running && !t.output.muteLine &&
      slotAt t 0 == .free && (slotAt t 63).carries 601) = true ∧
    after (exec (.boundary false) (delivering .running)) (fun t => t.output.state == .muted && t.output.muteLine &&
      t.output.interval == none && t.output.muted == 1) = true ∧
    after (exec (.boundary true) m) (fun t => t.output.state == .muted && t.output.interval == none &&
      slotAt t 63 == .free && t.output.muted == 1) = true := by
  unfold OutputInv
  decide +kernel

/-- Sequence 601 within the range of a break on air, a label window enabled: two packets leave replaced. -/
theorem test_boundary_splices :
    let s : State := { delivering .running with
      settings := at87.settings, memory := at87.memory, splice := at87.splice
      breaks := { BreakTable.reset with
        records := BreakTable.reset.records.set 0
          (some { break710 with state := .onAir, sIn := 600, replaced := 1000, emitted := 1000 }) } }
    let s1 : State := { s with store := { s.store with
      slots := s.store.slots.set 63 (heldAt 601 tl600.nextBoundary [packet 0x101 0, packet 0x101 0, packet 0x130 9]) } }
    after (exec (.boundary true) s1) (fun t =>
      (t.output.interval.any fun v => v.packets.map (·.1.label) == [0x101, 0x102, 0x130]) &&
        (recOf t 0).any fun b => b.emitted == 1002 && b.framesOnAir == 1) = true := by decide +kernel

/-- Port A directs and the output is Running without a command cause. -/
theorem witness_SetMuteChangesCommandCause :
    let s : State := { led with output := { Output.reset with state := .running, muteLine := false } }
    s.direction.director = some .a ∧ s.output.state = .running ∧ s.output.causes.command = false ∧
      after (exec (.setMute .a [1]) s) (fun t => t.output.causes.command && t.output.state == .muted) = true := by
  decide +kernel

/-- Idle with no Apply pending, Idle with an Apply of T_f pending, and Running with an Emitting slot. -/
theorem witness_StartAndStopEmission :
    let pending : State := { led with
      settings := ⟨defaultProfile, { defaultProfile with frameInterval := 250000 }, .next⟩ }
    let airing : State := { holding led .free (.emitting ⟨600, ⟨1, 0⟩, .one, ⟨1, 0⟩⟩ 0 []) with
      output := { Output.reset with
        state := .running, interval := some ⟨⟨1, 0⟩, some 600, .programme, [(nullPacket, ⟨1, 0⟩)], 0, some 63⟩ } }
    (led.direction.director = some .a ∧ led.output.state = .idle ∧ formatPending led = false) ∧
    (pending.direction.director = some .a ∧ formatPending pending = true) ∧
    (airing.direction.director = some .a ∧ airing.output.state ≠ .idle) ∧
    after (exec (.stopEmission .a []) airing) (fun t => slotAt t 63 == .free && t.output.muteLine) = true := by
  decide +kernel

/-- The first of two packets at its slot instant, the last one, and the mute line's time with no timeline. -/
theorem witness_ExciterLinesFollowInterval :
    let v (next : Nat) : Interval := ⟨⟨1, 0⟩, some 600, .programme, [(nullPacket, ⟨1, 0⟩), (nullPacket, ⟨1, 625⟩)], next, some 63⟩
    let s (next : Nat) : State := { holding (timed { Timebase.reset with localTime := ⟨1, 625⟩ }) .free
        (.emitting ⟨600, ⟨1, 0⟩, .one, ⟨1, 0⟩⟩ 0 []) with output := { Output.reset with interval := some (v next) } }
    let m : State := { timed { Timebase.reset with localTime := ⟨1, 0⟩ } with
      output := { Output.reset with state := .running, muteLine := false, muteAt := some ⟨1, 0⟩ } }
    ((s 0).output.interval = some (v 0) ∧ (v 0).packets[0]? = some (nullPacket, ⟨1, 0⟩) ∧
      0 ≤ timeDiff (s 0).tb.localTime ⟨1, 0⟩ ∧ 0 + 1 < (v 0).packets.length) ∧
    ((v 1).packets[1]? = some (nullPacket, ⟨1, 625⟩) ∧ 0 ≤ timeDiff (s 1).tb.localTime ⟨1, 625⟩ ∧
      1 + 1 = (v 1).packets.length) ∧
    after (exec .packetPresentation (s 1)) (fun t => t.output.interval == none && slotAt t 63 == .free) = true ∧
    (m.output.state = .running ∧ m.output.muteLine = false ∧ m.output.muteAt = some ⟨1, 0⟩ ∧
      0 ≤ timeDiff m.tb.localTime ⟨1, 0⟩ ∧ m.store.timeline = none) ∧
    10000 ≤ defaultProfile.frameInterval ∧ (List.replicate 384 nullPacket).length = defaultProfile.packets := by
  decide +kernel

/-! ### Witnesses: Break Table -/

/-- Port A directs, record 0 holds a record, the timeline sequence is 20,800. -/
def holds (b : BreakRec) : State :=
  { at69 with breaks := { BreakTable.reset with records := BreakTable.reset.records.set 0 (some b) } }

/-- Sixteen records of one state, apart from one another. -/
def fullTable (st : BreakState) (order : List (Fin 16)) : State :=
  { at69 with breaks := { BreakTable.reset with
    records := ⟨(List.range 16).map fun n => some { newBreak (BitVec.ofNat 16 (n + 1)) .feed (BitVec.ofNat 16 (30000 + n)) 1 1
      [5] with state := st }, by simp⟩
    terminalOrder := order } }

/-- An id that is held; a first sequence one after the timeline sequence; a conflict, with a Fetching and with an OnAir
record; a full table of live records. -/
theorem witness_CreateBreakTakesRecord_refused :
    let late : BreakArgs := { create900 with sIn := 20801 }
    let air := holds { break710 with state := .onAir }
    let full := fullTable .pending []
    (∀ a ∈ [{ create900 with id := 710 }, late, create900], breakArgsValid a = true) ∧
    (at69.direction.director = some .a ∧ (findBreak at69 710).isSome = true) ∧
    (findBreak at69 900 = none ∧ tooLate at69 late.sIn = true ∧ tooLate at69 20802 = false) ∧
    (tooLate at69 create900.sIn = false ∧ conflicting at69 none 1 create900.sIn create900.frames = [0] ∧
      isOnAir at69 0 = false) ∧
    (findBreak air 900 = none ∧ conflicting air none 1 create900.sIn create900.frames = [0] ∧ isOnAir air 0 = true) ∧
    findBreak full 900 = none ∧ conflicting full none 1 create900.sIn create900.frames = [] ∧ recordForNew full = none := by
  decide +kernel

/-- A Free record and no conflict; the oldest terminal record of a full table; a conflict that is replaced. -/
theorem witness_CreateBreakTakesRecord_taken :
    let old := fullTable .done [7, 3]
    breakArgsValid (create800 8) = true ∧ findBreak at69 800 = none ∧ tooLate at69 21500 = false ∧
    (recOf at69 1 = none ∧ recOf at69 0 ≠ none ∧ conflicting at69 none 8 21500 100 = []) ∧
    (findBreak old 800 = none ∧ conflicting old none 8 21500 100 = [] ∧ (∀ q, recOf old q ≠ none) ∧
      old.breaks.terminalOrder.head? = some 7) ∧
    conflicting at69 none 9 21500 100 = [0] ∧ isOnAir at69 0 = false := by decide +kernel

/-- An Announce cue for every zone. -/
def announce (id : BitVec 16) (sIn : Seq) (windows : BitVec 8) (segments : List (BitVec 32)) : Cue :=
  ⟨1, segments.length, 0xFFFF, id, sIn, 100, windows, 0, segments⟩

/-- An Announce of a new break: one after the timeline sequence; in conflict; with a full table of live records; with a Free
record two after the timeline sequence; with the oldest terminal record of a full table. -/
theorem witness_CreateBreakTakesRecord_cues :
    let full := fullTable .pending []
    let old := fullTable .done [7, 3]
    (∀ s ∈ [at69, full, old], ∀ r, (recOf s r).all (·.id != 900) = true) ∧
    ((announce 900 20801 8 [7002]).kind = 1 ∧
      (announce 900 20801 8 [7002]).zoneMask.getLsbD at69.profile.zone = true) ∧
    (timelineSeq at69 = some 20800 ∧ follows 20801 (20800 + 1) = false ∧ follows 20802 (20800 + 1) = true) ∧
    (break710.state = .fetching ∧ break710.windows &&& 1 ≠ 0 ∧
      rangesMeet break710.sIn break710.frames.toNat 21200 (100 : BitVec 16).toNat = true) ∧
    ((∀ r, recOf full r ≠ none) ∧ full.breaks.terminalOrder = []) ∧ (recOf at69 1 = none ∧ recOf at69 0 ≠ none) ∧
    ((∀ q, recOf old q ≠ none) ∧ old.breaks.terminalOrder.head? = some 7) ∧
    (takeCue at69 (announce 900 20801 8 [7002])).breaks.cues.tooLate = 1 ∧
    (takeCue at69 (announce 900 21200 1 [7002])).breaks.cues.conflicts = 1 ∧
    (takeCue full (announce 900 21500 8 [7002])).breaks.cues.tableFull = 1 ∧
    recOf (takeCue at69 (announce 900 20802 8 [7002])) 1 = some (newBreak 900 .feed 20802 100 8 [7002]) ∧
    recOf (takeCue old (announce 900 21500 8 [7002])) 7 = some (newBreak 900 .feed 21500 100 8 [7002]) := by
  decide +kernel

/-- An unheld id; a Fetching record; a Pending record with a late first sequence, with a conflict, and amended with one
entry Ready that stands and one new; an Armed record amended with its Ready entries alone. -/
theorem witness_AmendBreakReplacesValues :
    let args (sIn : Seq) (segments : List (BitVec 32)) : BreakArgs := ⟨710, sIn, 1250, 1, segments⟩
    let waiting (st : BreakState) := holds { break710 with state := st }
    let two : State := { waiting .pending with breaks := { (waiting .pending).breaks with
      records := (waiting .pending).breaks.records.set 9 (some (newBreak 711 .feed 22000 900 1 [5])) } }
    (∀ a ∈ [args 21000 [5001], args 20801 [5001]], breakArgsValid a = true) ∧
    findBreak at69 900 = none ∧
    (findBreak at69 710 = some 0 ∧ recOf at69 0 = some break710 ∧ break710.state = .fetching) ∧
    (findBreak (waiting .pending) 710 = some 0 ∧ tooLate (waiting .pending) 20801 = true) ∧
    (findBreak two 710 = some 0 ∧ conflicting two (some 0) 1 21000 1250 = [9]) ∧
    (tooLate (waiting .armed) 21000 = false ∧ conflicting (waiting .armed) (some 0) 1 21000 1250 = []) ∧
    after (exec (.amendBreak .a (amendBytes (args 21000 [5001, 5009]))) (waiting .armed)) (fun t =>
      (recOf t 0).any fun b => b.state == .pending && b.total == none && b.entries.map (·.state) == [.ready, .querying]) =
        true ∧
    after (exec (.amendBreak .a (amendBytes (args 22000 [5001]))) (waiting .pending)) (fun t =>
      (recOf t 0).any fun b => b.state == .armed && b.total == some 3000) = true := by decide +kernel

/-- An Announce of a held break id: a repeat; an amend of a record in Fetching, and of a Pending one of a port; of a Pending
one of the feed, too late, in conflict with another record, and taken. -/
theorem witness_AmendBreakReplacesValues_cues :
    let b := newBreak 710 .feed 21000 100 1 [5001]
    let s := holds b
    let port := holds { b with origin := .portA }
    let fetching := holds { b with state := .fetching }
    let two : State := { s with breaks := { s.breaks with
      records := s.breaks.records.set 9 (some (newBreak 711 .portB 22000 900 2 [5])) } }
    (∀ x ∈ [s, port, fetching, two], findBreak x 710 = some 0 ∧ (recOf x 0).isSome = true) ∧
    (b.frames = (announce 710 21000 1 [5001]).frames ∧ b.origin = .feed ∧ b.state = .pending) ∧
    (takeCue s (announce 710 21000 1 [5001])).breaks.cues.repeats = 1 ∧
    (takeCue port (announce 710 21000 1 [5002])).breaks.cues.mismatches = 1 ∧
    (takeCue fetching (announce 710 21001 1 [5001])).breaks.cues.mismatches = 1 ∧
    (takeCue s (announce 710 20801 1 [5001])).breaks.cues.tooLate = 1 ∧
    (takeCue two (announce 710 21950 2 [5001])).breaks.cues.conflicts = 1 ∧
    (takeCue two (announce 710 21950 1 [5002])).breaks.cues.amends = 1 ∧
    recOf (takeCue two (announce 710 21950 1 [5002])) 0 = some (newBreak 710 .feed 21950 100 1 [5002]) := by
  decide +kernel

/-- A record in Fetching whose Fetch is being sent in slot 1 while a reissue waits in slot 0; a terminal record; a record
on air. -/
theorem witness_CancelBreakAbandons :
    let fetch (send : SendState) : Request := ⟨.fetch 512 128, 0, 710, 0, 5001, send, none, false, false⟩
    let s : State := { at69 with
      link := { AdvertLink.reset with slots := (AdvertLink.reset.slots.set 0 (some (fetch .waiting))).set 1 (some (fetch .beingSent)) }
      memory := { AdvertMemory.reset with queues := AdvertMemory.reset.queues.set 0 [.reserved 128] } }
    (s.direction.director = some .a ∧ findBreak s 710 = some 0 ∧ recOf s 0 = some break710 ∧ break710.state = .fetching ∧
      slotOf s 0 = some (fetch .waiting) ∧ slotOf s 1 = some (fetch .beingSent)) ∧
    after (exec (.cancelBreak .a (idBytes 710)) s) (fun t => slotOf t 0 == none && t.memory.detached.get 1 == 128 &&
      freePlaces t.memory == 8064) = true ∧
    findBreak (holds { break710 with state := .done }) 710 = some 0 ∧
    findBreak (holds { break710 with state := .onAir }) 710 = some 0 ∧ findBreak at69 711 = none := by decide +kernel

/-- A cue for no zone; a Cancel and a Return of a break that no record holds, of one on air, of one that is done, and of one
in Fetching. -/
theorem witness_CancelBreakAbandons_cues :
    let cue (kind : Nat) (id : BitVec 16) : Cue := ⟨kind, 0, 0xFFFF, id, 0, 1, 0, 0, []⟩
    let air := holds { break710 with state := .onAir }
    let done := holds { break710 with state := .done }
    (({ cue 2 710 with zoneMask := 0 } : Cue).zoneMask.getLsbD at69.profile.zone = false ∧
      (takeCue at69 { cue 2 710 with zoneMask := 0 }).breaks.cues.notForZone = 1) ∧
    (∀ kind ∈ [2, 3],
      (cue kind 710).zoneMask.getLsbD at69.profile.zone = true ∧ (∀ r, (recOf at69 r).all (·.id != 900) = true) ∧
      (∀ x ∈ [at69, air, done], findBreak x 710 = some 0) ∧
      (takeCue at69 (cue kind 900)).breaks.cues.noSuchBreak = 1 ∧
      recOf (takeCue air (cue kind 710)) 0 = some { break710 with state := .onAir, earlyMark := true } ∧
      (takeCue done (cue kind 710)).breaks.cues.ignored = 1) ∧
    (takeCue at69 (cue 3 710)).breaks.cues.ignored = 1 ∧ (710 : BitVec 16) ≠ 0 ∧ at69.direction.director = some .a ∧
    (recOf (takeCue at69 (cue 2 710)) 0).any (fun b => b.state == .abandoned && b.cause == some .cancelled) = true := by
  decide +kernel

/-- BreaksInv of a state by its records. -/
theorem breaksInv_of {s : State}
    (h : ∀ r q : Fin 16, r ≠ q → ∀ b ∈ recOf s r, ∀ c ∈ recOf s q, b.id ≠ c.id ∧
      (b.state.live = true → c.state.live = true →
        b.windows &&& c.windows = 0 ∨ rangesMeet b.sIn b.frames.toNat c.sIn c.frames.toNat = false))
    (h' : ∀ r : Fin 16, ∀ b ∈ recOf s r, b.replaced = b.emitted + b.underruns + b.tails ∧
      (b.state = .pending ∨ b.state = .armed ∨ b.state = .fetching → b.earlyMark = false ∧ b.underrunMark = false)) :
    BreaksInv s := ⟨fun r q b c n hb hc => h r q n b hb c hc, fun r b hb => h' r b hb⟩

/-- The record of break 710 beside another one in record 9. -/
def beside (b : BreakRec) : State :=
  { holds b with breaks := { (holds b).breaks with
    records := (holds b).breaks.records.set 9 (some (newBreak 711 .portB 22250 900 1 [5])) } }

theorem witness_RetireBreakFreesRecord :
    (BreaksInv (beside { break710 with state := .done }) ∧ BreaksInv (beside break710)) ∧
    recOf (beside { break710 with state := .done }) 0 = some { break710 with state := .done } ∧
    (710 : BitVec 16) ≠ 0 ∧ after (exec (.retireBreak .a (idBytes 710)) (beside { break710 with state := .done })) (fun t =>
      recOf t 0 == none && findBreak t 710 == none && (recOf t 9).isSome) = true ∧
    after (exec (.retireBreak .a (idBytes 710)) (beside break710)) (fun t =>
      (portOf t.ports .a).response.result == .wrongState) = true :=
  ⟨⟨breaksInv_of (by decide +kernel) (by decide +kernel), breaksInv_of (by decide +kernel) (by decide +kernel)⟩,
    by decide +kernel⟩

/-- A Pending record with an Unknown entry whose timer is 0; one whose timer is 2 at a boundary that carries a sequence and
at a gap boundary. -/
theorem witness_RequeryTimersReturnEntries :
    let x (n : Nat) : Entry := ⟨5001, .unknown, none, 0, 0, some n⟩
    let b (n : Nat) : BreakRec := { break710 with state := .pending, entries := [x n] }
    let s := holds (b 0)
    let t : State := { bounded .idle false tl600 with breaks := (holds (b 2)).breaks }
    let gap : State := { bounded .idle false { tl600 with runningGaps := 1 } with breaks := (holds (b 2)).breaks }
    (recOf s 0 = some (b 0) ∧ (b 0).entries[(0 : Fin 8).val]? = some (x 0)) ∧
    after (exec (.requeryTimerExpiry 0 0) s) (fun t =>
      (recOf t 0).any fun b => b.entries == [⟨5001, .querying, none, 0, 0, none⟩]) = true ∧
    (t.store.timeline = some tl600 ∧ 0 ≤ timeDiff t.tb.localTime tl600.nextBoundary ∧ t.settings.apply = .none) ∧
    (fixCarry t.profile.frameInterval tl600).1 = some 601 ∧
    (fixCarry t.profile.frameInterval { tl600 with runningGaps := 1 }).1 = none ∧
    after (exec (.boundary true) t) (fun u => (recOf u 0).any fun d => d.entries == [x 1] && d.state.live) = true ∧
    after (exec (.boundary true) gap) (fun u => u.breaks == gap.breaks) = true := by decide +kernel

/-- Break 710 in Fetching at its first sequence, with exactly the start fill of 512 in advert memory, or one less. -/
def starting (filled : Nat) : State :=
  { beside break710 with memory := { AdvertMemory.reset with
    queues := AdvertMemory.reset.queues.set 0 [.filled (List.replicate filled nullPacket) 0] } }

theorem witness_BoundaryRuleMovesRecords :
    (∀ n ∈ [511, 512], BreaksInv (starting n) ∧ ∀ r b, recOf (starting n) r = some b → b.state = .onAir →
      atOrAfter 21000 b.sIn = true) ∧
    recOf (starting 512) 0 = some break710 ∧ break710.sIn = 21000 ∧ 1 ≤ break710.frames.toNat ∧
    break710.total = some 4800 ∧ min (starting 512).profile.startFill 4800 ≤ headFilled (queueOf (starting 512) 0) ∧
    0 < (starting 511).profile.retention ∧
    headFilled (queueOf (starting 511) 0) < min (starting 511).profile.startFill 4800 := by
  have h : BreaksInv (beside break710) := breaksInv_of (by decide +kernel) (by decide +kernel)
  have h' : ∀ r, ∀ b ∈ recOf (beside break710) r, b.state = .onAir → atOrAfter 21000 b.sIn = true := by decide +kernel
  exact ⟨fun n _ => ⟨h, h'⟩, by decide +kernel⟩

/-- Break 710 in a state, with packets to read and requests sent and waiting, beside the Pending record of `beside`. -/
def closing (b : BreakRec) : State :=
  let fetch (send : SendState) : Request := ⟨.fetch 512 128, 0, 710, 0, 5001, send, none, false, false⟩
  { beside b with
    link := { AdvertLink.reset with
      slots := (AdvertLink.reset.slots.set 0 (some (fetch .sent))).set 1 (some (fetch .waiting)), created := [0, 9] }
    memory := { AdvertMemory.reset with
      queues := AdvertMemory.reset.queues.set 0 [.filled (List.replicate 3 nullPacket) 1, .reserved 128] } }

/-- The records of the next theorem: on air with no mark and with each, waiting in each state, and terminal since 21,000. -/
def closingRecords : List BreakRec :=
  let b (st : BreakState) : BreakRec := { break710 with state := st }
  [b .onAir, { b .onAir with earlyMark := true }, { b .onAir with underrunMark := true, earlyMark := true }, b .pending,
    b .armed, b .fetching, { b .done with termSeq := some 21000 }]

/-- A record on air that a mark, a stop and its range end, the last as that of record 9 is not ready, and one that goes on;
one that waits, in each state and at each limit; and a terminal one of each age. -/
theorem witness_BoundaryRuleMovesRecords_ends :
    let b (st : BreakState) : BreakRec := { break710 with state := st }
    let end_ (q : Seq) (stopped : Bool) (b : BreakRec) := recOf (boundaryRule q stopped (closing b)) 0
    (∀ b ∈ closingRecords, BreaksInv (closing b) ∧
      ∀ r d, recOf (closing b) r = some d → d.state = .onAir → atOrAfter 21010 d.sIn = true) ∧
    end_ 21010 true (b .onAir) = some (endedAt 21010 .done .returned 2 (b .onAir)) ∧
    (∀ d ∈ closingRecords.tail.take 2, endsByMark false d = true ∧ (end_ 21010 false d).bind (·.cause) =
      some (if d.underrunMark then .underrunReturn else .returned)) ∧
    (endsByRange 22250 false (b .onAir) = true ∧ endsByRange 22249 false (b .onAir) = false ∧
      end_ 22249 false (b .onAir) = some { b .onAir with framesOnAir := 1 }) ∧
    (let t := boundaryRule 22250 false (closing (b .onAir))
     t.breaks.terminalOrder = [0, 9] ∧ t.link.created = [] ∧ (recOf t 9).bind (·.cause) = some .notReady ∧
       (recOf t 0).map (fun d => (d.cause, d.surplus)) = some (some .completed, 2) ∧ queueOf t 0 = [] ∧
       slotOf t 1 = none ∧ (slotOf t 0).map (fun p => p.aborted && p.abortWaiting) = some true ∧
       t.memory.detached.get 0 = 128 ∧ (monRec t mon13).events = 1) ∧
    (∀ d ∈ [b .pending, b .armed, b .fetching], startReached 21000 d = true ∧ startReached 20999 d = false ∧
      startFails (closing d) 21000 true 0 d = true ∧ (end_ 21000 true d).bind (·.cause) = some .notOnAir) ∧
    startsOnAir (starting 512) 21000 false 0 break710 = true ∧
    ((end_ 20999 false (b .armed)).map (·.state) = some .fetching ∧
      atOrAfter 20999 ((b .armed).sIn - BitVec.ofNat 16 (closing (b .armed)).profile.prefetch) = true) ∧
    (let old : BreakRec := { b .done with termSeq := some 21000 }
     let r := (closing old).profile.retention
     0 < r ∧ (end_ (21000 + BitVec.ofNat 16 r - 1) false old).isSome = true ∧
       end_ (21000 + BitVec.ofNat 16 r) false old = none) := by
  have inv : ∀ b ∈ closingRecords, BreaksInv (closing b) := by
    intro b hb
    simp only [closingRecords, List.mem_cons, List.not_mem_nil, or_false] at hb
    rcases hb with rfl | rfl | rfl | rfl | rfl | rfl | rfl <;> exact breaksInv_of (by decide +kernel) (by decide +kernel)
  have air : ∀ b ∈ closingRecords, ∀ r, ∀ d ∈ recOf (closing b) r, d.state = .onAir → atOrAfter 21010 d.sIn = true := by
    decide +kernel
  exact ⟨fun b hb => ⟨inv b hb, air b hb⟩, by decide +kernel⟩

/-! ### Witnesses: Advert Link -/

/-- A Fetch of 128 packets of break 710 in a send state. -/
def fetch710 (send : SendState) : Request := ⟨.fetch 512 128, 0, 710, 0, 5001, send, none, false, false⟩

/-- A state with two request slots and a line. -/
def linked (s : State) (first second : Option Request) (line : Option Sending) : State :=
  { s with link := { s.link with slots := (s.link.slots.set 0 first).set 1 second, line := line } }

/-- A record whose one entry is Querying, in the creation order. -/
def querying : State :=
  { holds (newBreak 710 .feed 21000 1250 1 [5001]) with link := { AdvertLink.reset with created := [0] } }

/-- A line in use; an Abort and a reissue waiting; nothing to send; no Free slot; a new Query; a new Fetch, the places up
to the high mark being 100; the last byte of a request, and of an Abort. -/
theorem witness_MessagesLeaveByPriority :
    let busy := linked at69 (some (fetch710 .beingSent)) none (some ⟨[3], some 0⟩)
    let abort := linked at69 (some (fetch710 .waiting)) (some { fetch710 .sent with aborted := true, abortWaiting := true }) none
    let reissue := linked at69 (some (fetch710 .sent)) (some (fetch710 .waiting)) none
    let full := linked at69 (some (fetch710 .sent)) (some { fetch710 .sent with aborted := true }) none
    let nearly : State := { at69 with memory := { AdvertMemory.reset with
      queues := AdvertMemory.reset.queues.set 0 [.filled (List.replicate 1948 nullPacket) 0] } }
    busy.link.line ≠ none ∧
    (abort.link.line = none ∧ (slotOf abort 1).any (·.abortWaiting) = true ∧
      (slotOf abort 0).any (·.abortWaiting) = false) ∧
    (reissue.link.line = none ∧ (∀ j, (slotOf reissue j).any (·.abortWaiting) = false) ∧
      slotOf reissue 1 = some (fetch710 .waiting) ∧ (slotOf reissue 0).any (·.send == .waiting) = false) ∧
    (chooseRequest led = none ∧ led.link.line = none ∧ ∀ j, slotOf led j = none) ∧
    (full.link.line = none ∧ (∀ j, slotOf full j ≠ none) ∧
      ∀ j, (slotOf full j).any (fun x => x.abortWaiting || x.send == .waiting) = false) ∧
    (chooseRequest querying = some ⟨0, 0, .query⟩ ∧ slotOf querying 0 = none ∧
      (recOf querying 0).any (fun b => (entryOf b 0).isSome) = true) ∧
    (chooseRequest at69 = some ⟨0, 0, .fetch 0 128⟩ ∧ chooseRequest nearly = some ⟨0, 0, .fetch 0 100⟩ ∧
      slotOf nearly 0 = none ∧ entryOf break710 0 = some ⟨5001, .ready, some 3000, 0, 0, none⟩) ∧
    (busy.link.line = some ⟨[3], some 0⟩ ∧ slotOf busy 0 = some (fetch710 .beingSent)) ∧
    (linked led none none (some ⟨[3], none⟩)).link.line = some ⟨[3], none⟩ := by decide +kernel

/-- One record's order value goes before every other's. -/
theorem fetchedFirst_of {s : State} {r : Fin 16} {st : BreakState}
    (h : ∀ x, x ≠ r → (recOf s x).isSome = true →
      fetchOrder s r < fetchOrder s x ∨ (fetchOrder s r = fetchOrder s x ∧ r < x)) : fetchedFirst s r st := by
  rintro x e o n ⟨b, -, hb, -⟩ hx
  exact h x hx (by rw [hb]; rfl)

/-- No record is in a state. -/
theorem noFetch_of {s : State} {st : BreakState} (h : ∀ r, (recOf s r).all (·.state != st) = true) : noFetch s st := by
  rintro r e o n ⟨b, -, hb, hs, -⟩
  have := h r
  simp [hb, hs] at this

/-- Two records on air that are eligible for a Fetch: record 9, whose range begins earlier, or as early as that of
record 0. -/
def airing (first : Seq) : State :=
  { at69 with breaks := { BreakTable.reset with
    records := (BreakTable.reset.records.set 0 (some { break710 with state := .onAir })).set 9
      (some { break710 with id := 711, windows := 2, sIn := first, state := .onAir }) } }

/-- The lower order value, and the lower record number of two equal ones; the creation order of two Queries; a Fetch for a
record in Fetching; and nothing to send. -/
theorem witness_MessagesLeaveByPriority_order :
    fetchable (airing 20700) 9 .onAir 0 0 128 ∧ fetchedFirst (airing 20700) 9 .onAir ∧
    fetchable (airing 21000) 0 .onAir 0 0 128 ∧ fetchedFirst (airing 21000) 0 .onAir ∧
    (let s : State := { querying with
       link := { AdvertLink.reset with created := [9, 0] }
       breaks := { querying.breaks with
         records := querying.breaks.records.set 9 (some (newBreak 711 .feed 21000 1250 2 [5])) } }
     noFetch s .onAir ∧ s.link.created = [] ++ 9 :: [0] ∧ queryable s 9 0 ∧ chooseRequest s = some ⟨9, 0, .query⟩) ∧
    (noFetch at69 .onAir ∧ at69.link.created = [] ∧ fetchable at69 0 .fetching 0 0 128 ∧ fetchedFirst at69 0 .fetching) ∧
    (noFetch led .onAir ∧ noFetch led .fetching ∧ led.link.created = []) := by
  have slots : ∀ s ∈ [airing 20700, airing 21000, at69], ∀ k, slotOf s k = none := by decide +kernel
  have none_ {s : State} (h : ∀ k, slotOf s k = none) {P : Request → Prop} : ∀ k q, slotOf s k = some q → P q := by
    intro k q hq
    rw [h k] at hq
    cases hq
  refine ⟨⟨{ break710 with id := 711, windows := 2, sIn := 20700, state := .onAir }, ⟨5001, .ready, some 3000, 0, 0, none⟩,
      by decide +kernel, rfl, by decide, none_ (slots _ (by simp)), by decide, by decide, by decide, by decide, by decide,
      by decide +kernel⟩, fetchedFirst_of (by decide +kernel),
    ⟨{ break710 with state := .onAir }, ⟨5001, .ready, some 3000, 0, 0, none⟩,
      by decide +kernel, rfl, by decide, none_ (slots _ (by simp)), by decide, by decide, by decide, by decide, by decide,
      by decide +kernel⟩, fetchedFirst_of (by decide +kernel),
    ⟨noFetch_of (by decide +kernel), rfl, ⟨newBreak 711 .feed 21000 1250 2 [5], newEntry 5, by decide +kernel, rfl,
      by decide, rfl, none_ (by decide +kernel)⟩, by decide +kernel⟩,
    ⟨noFetch_of (by decide +kernel), rfl, ⟨break710, ⟨5001, .ready, some 3000, 0, 0, none⟩, by decide +kernel, rfl,
      by decide, none_ (slots _ (by simp)), by decide, by decide, by decide, by decide, by decide, by decide +kernel⟩,
      fetchedFirst_of (by decide +kernel)⟩,
    noFetch_of (by decide +kernel), noFetch_of (by decide +kernel), rfl⟩

/-- A Query awaiting with its entry Querying, alone in its record, and beside another Querying entry; the counts are the
least and the largest; a part of the message kept. -/
theorem witness_QueryRepliesSetEntries :
    let q : Request := ⟨.query, 0, 710, 0, 5001, .sent, none, false, false⟩
    let s1 := linked querying none (some q) none
    let s2 := linked (holds (newBreak 710 .feed 21000 1250 1 [5001, 5002])) none (some q) none
    let s3 : State := { s1 with lines := { Lines.reset with advert := [0x12, 0, 0] } }
    (∀ s ∈ [s1, s2], slotOf s 1 = some q ∧ (recOf s 0).any (fun b =>
      b.entries[q.entry.val]? == some (newEntry 5001) && b.state.live && b.state == .pending) = true) ∧
    (1 ≤ (1 : BitVec 32).toNat ∧ (16777215 : BitVec 32).toNat ≤ 16777215) ∧
    (completes s1 (readyMessage 1 5001 16777215) && completes s2 (readyMessage 1 5001 1) &&
      completes s3 (unknownMessage 1 5001)) = true ∧
    after (exec (.ready 1 5001 16777215) s1) (fun t => slotOf t 1 == none &&
      (recOf t 0).any fun b => b.state == .fetching && b.total == some 16777215) = true ∧
    after (exec (.ready 1 5001 1) s2) (fun t => (recOf t 0).any fun b => b.state == .pending) = true := by decide +kernel

/-- Replies to an aborted Query, to a Fetch, to a Query of another segment, and with the tags of a Free slot and of none. -/
theorem witness_QueryRepliesSetEntries_unsolicited :
    let q : Request := ⟨.query, 0, 710, 0, 5001, .sent, none, true, false⟩
    let s := linked at69 (some (fetch710 .sent)) (some q) none
    (slotOf s 1 = some q ∧ slotOf s 0 = some (fetch710 .sent) ∧ (fetch710 .sent).kind ≠ .query ∧ slotOf led 0 = none) ∧
    (completes s (unknownMessage 1 5001) && completes s (readyMessage 0 5001 1)) = true ∧
    after (exec (.unknown 1 5001) s) (fun t => slotOf t 1 == none && t.link.unsolicited == 0) = true ∧
    after (exec (.ready 0 5001 1) s) (fun t => t.link.unsolicited == 1) = true ∧
    after (exec (.unknown 2 5001) s) (fun t => t.link.unsolicited == 1) = true := by decide +kernel

/-- R106: a reply that an amend has overtaken frees its slot, and the attempts of the entry now at its position stand; the
same with that entry taken away. A reply whose entry is no longer Querying sets its attempts to 0. -/
theorem witness_QueryRepliesSetEntries_overtaken :
    let q : Request := ⟨.query, 0, 710, 1, 5001, .sent, none, false, false⟩
    let s (entries : List Entry) : State :=
      linked (holds { newBreak 710 .feed 21000 1250 1 [] with entries := entries }) none (some q) none
    let amended := s [newEntry 5001, { newEntry 5009 with attempts := 2 }]
    let gone := s [newEntry 5001]
    let ready := s [newEntry 5009, ⟨5001, .ready, some 60, 0, 1, none⟩]
    (∀ x ∈ [amended, gone, ready], slotOf x 1 = some q ∧ completes x (readyMessage 1 5001 7) = true ∧
      completes x (unknownMessage 1 5001) = true) ∧
    (∀ x ∈ [amended, gone], ((recOf x 0).bind fun b => b.entries[q.entry.val]?).all (·.segment != 5001) = true ∧
      ∀ c ∈ [Instr.ready 1 5001 7, .unknown 1 5001], after (exec c x) (fun t =>
        t.breaks == x.breaks && slotOf t 1 == none && t.link.unsolicited == 0) = true) ∧
    after (exec (.unknown 1 5001) ready) (fun t => (recOf t 0).any fun b =>
      b.entries == [newEntry 5009, ⟨5001, .ready, some 60, 0, 0, none⟩]) = true := by decide +kernel

/-- A reservation of 128 after a filled extent, answered in full and short. -/
theorem witness_BurstFillsReservation :
    let s : State := { linked at69 (some (fetch710 .sent)) none none with memory := { AdvertMemory.reset with
      queues := AdvertMemory.reset.queues.set 0 ([.filled [packet 1 0] 0] ++ [.reserved 128]) } }
    (slotOf s 0 = some (fetch710 .sent) ∧ (512 : BitVec 32).toNat = 512 ∧
      queueOf s 0 = [.filled [packet 1 0] 0] ++ [.reserved 128] ∧ queueReserved [.filled [packet 1 0] 0] = 0 ∧
      extentPlaces (.filled [packet 1 0] 0) ≠ 0 ∧ recOf s 0 = some break710 ∧ (break710.entries[0]?).isSome = true ∧
      slotOf s 1 = none ∧ 128 ≤ 65535) ∧
    (∀ n ∈ [1, 128], 1 ≤ (List.replicate n nullPacket).length ∧ (List.replicate n nullPacket).length ≤ 128 ∧
      (List.replicate n nullPacket).all (·.sync == 0x5A) = true ∧
      completes s (burstMessage 0 710 5001 512 (List.replicate n nullPacket)) = true) ∧
    after (exec (.burst 0 710 5001 512 [nullPacket]) s) (fun t => t.link.shorts == 1 && queuePlaces (queueOf t 0) == 2) =
      true := by decide +kernel

/-- A Burst that meets its aborted request; one with another offset, one that meets a Query, and one of a Free slot. -/
theorem witness_BurstFillsReservation_unsolicited :
    let q : Request := { fetch710 .sent with aborted := true }
    let query : Request := ⟨.query, 0, 710, 0, 5001, .sent, none, false, false⟩
    let s : State := { linked at69 (some q) (some query) none with
      memory := { AdvertMemory.reset with detached := AdvertMemory.reset.detached.set 0 128 } }
    (slotOf s 0 = some q ∧ q.kind = .fetch 512 128 ∧ slotOf s 1 = some query ∧ (513 : BitVec 32).toNat ≠ 512 ∧
      slotOf at69 0 = none) ∧
    (completes s (burstMessage 0 710 5001 512 [nullPacket]) && completes s (burstMessage 0 710 5001 513 []) &&
      completes s (burstMessage 1 710 5001 0 [])) = true ∧
    after (exec (.burst 0 710 5001 512 [nullPacket]) s) (fun t => slotOf t 0 == none && t.memory.detached.get 0 == 0) = true ∧
    after (exec (.burst 0 710 5001 513 []) s) (fun t => t.link.unsolicited == 1) = true ∧
    after (exec (.burst 1 710 5001 0 []) s) (fun t => t.link.unsolicited == 1) = true := by decide +kernel

/-- A segment of a Fetching and of an Armed record, and one of no live record. -/
theorem witness_WithdrawReachesLiveRecords :
    let armed : BreakRec := { newBreak 711 .feed 25000 100 1 [5001] with
      state := .armed, entries := [⟨5001, .ready, some 60, 0, 0, none⟩], total := some 60 }
    let s : State := { at69 with breaks := { at69.breaks with records := at69.breaks.records.set 9 (some armed) } }
    (recOf s 0 = some break710 ∧ break710.state = .fetching ∧ break710.entries.map (·.segment) = [5001, 5002]) ∧
    (recOf s 9 = some armed ∧ completes s (withdrawMessage 5001) = true) ∧
    after (exec (.withdraw 5001) s) (fun t => (recOf t 9).any (fun b => b.state == .pending && b.total == none) &&
      (recOf t 0).any (fun b => b.state == .fetching && b.entries.map (·.state) == [.withdrawn, .ready])) = true ∧
    after (exec (.withdraw 6) s) (fun t => t.monitors == s.monitors && t.link.withdraws == 1) = true := by decide +kernel

/-- Break 710 with as many attempts made of its first entry. -/
def tried (attempts : Nat) (q : Request) : State :=
  linked (holds { break710 with entries := [⟨5001, .ready, some 3000, 512, attempts, none⟩] }) (some q) none none

/-- A reply timeout reached exactly, with one retry left (the limit is 2), with none left, and of an aborted request; a
corrupt message that names slot 0; Bursts of no packets and of one more than asked for. -/
theorem witness_FailedAttemptsRetryOrFail :
    let q : Request := { fetch710 .sent with deadline := some ⟨0, 0⟩ }
    let m : RawMessage := ⟨0x13, [0], 0⟩
    (∀ s ∈ [tried 1 q, tried 2 q, tried 2 { q with aborted := true }], (slotOf s 0).any (fun x =>
      x.deadline == some ⟨0, 0⟩ && x.kind == .fetch 512 128) = true ∧ 0 ≤ timeDiff s.tb.localTime ⟨0, 0⟩ ∧
      endsMessage s (rawBytes m) m ∧ (∀ n ∈ [0, 129],
        completes s (burstMessage 0 710 5001 512 (List.replicate n nullPacket)) = true ∧ n ≤ 65535 ∧
          (List.replicate n nullPacket).all (·.sync == 0x5A) = true)) ∧
    (1 < (tried 1 q).profile.retries ∧ (tried 2 q).profile.retries ≤ 2) ∧
    (messageCorrupt m = true ∧ readableTag m = some 0) ∧
    after (exec (.replyTimeout 0) (tried 1 q)) (fun t => (slotOf t 0).any (·.send == .waiting) && t.link.retries == 1) =
      true ∧
    after (exec (.corruptMessage (rawBytes m)) (tried 2 q)) (fun t => slotOf t 0 == none &&
      (recOf t 0).any fun b => b.entries.map (·.state) == [.failed]) = true ∧
    after (exec (.burst 0 710 5001 512 []) (tried 1 q)) (fun t => (slotOf t 0).any (·.send == .waiting)) = true := by
  unfold endsMessage
  decide +kernel

/-- A Query of segment 5001 whose entry an amend has given another segment id, with a retry left and with none; one whose
entry an amend has taken away; and a Fetch with a retry left of a record with a Withdrawn entry. -/
theorem witness_FailedAttemptsRetryOrFail_overtaken :
    let q : Request := ⟨.query, 0, 710, 0, 5001, .sent, some ⟨0, 0⟩, false, false⟩
    let s (attempts : Nat) : State :=
      linked (holds { newBreak 710 .feed 21000 1250 1 [] with entries := [{ newEntry 5009 with attempts := attempts }] })
        (some q) none none
    let gone := linked (holds (newBreak 710 .feed 21000 1250 1 [5001])) (some { q with entry := 1 }) none none
    let stopped := linked (holds { break710 with entries := [⟨5001, .withdrawn, some 3000, 512, 1, none⟩] })
      (some { fetch710 .sent with deadline := some ⟨0, 0⟩ }) none none
    (∀ x ∈ [s 1, s 2, gone, stopped], x.profile.retries = 2 ∧ 0 ≤ timeDiff x.tb.localTime ⟨0, 0⟩ ∧
      (slotOf x 0).any (fun y => y.deadline == some ⟨0, 0⟩ && !y.aborted) = true) ∧
    (slotOf (s 1) 0 = some q ∧ q.segment ≠ 5009 ∧ (recOf gone 0).all (fun b => b.entries[1]? == none) = true) ∧
    after (exec (.replyTimeout 0) (s 1)) (fun t => (slotOf t 0).any (·.send == .waiting) &&
      (recOf t 0).any fun b => b.entries == [{ newEntry 5009 with attempts := 2 }]) = true ∧
    (∀ x ∈ [s 2, gone, stopped], after (exec (.replyTimeout 0) x) (fun t => slotOf t 0 == none && t.breaks == x.breaks &&
      t.monitors == x.monitors) = true) := by decide +kernel

/-- A corrupt message with a tag of no slot, one whose tag names a Free slot, and one without a tag; the first kept in
part. -/
theorem witness_FailedAttemptsRetryOrFail_unsolicited :
    let s : State := { led with lines := { Lines.reset with advert := [0x13] } }
    (∀ body ∈ [[(2 : Byte)], [0], []], let m : RawMessage := ⟨0x13, body, 0⟩
      endsMessage s ((rawBytes m).drop 1) m ∧ messageCorrupt m = true ∧ (readableTag m).all (· == 0) = true) ∧
    slotOf s 0 = none ∧
    after (exec (.corruptMessage ((rawBytes ⟨0x13, [2], 0⟩).drop 1)) s) (fun t => t.link.unsolicited == 1) = true := by
  unfold endsMessage
  decide +kernel

/-! ### Witnesses: Splice Unit, monitors, ports -/

/-- A label that hits no window, one that hits a Drop window alone, and one that hits a Splice window. -/
theorem witness_SplicedFrameKeepsPositions :
    (∀ w, labelHits (windowAt at87 w) 0x130 = false) ∧
    ((windowAt at87 3).kind = .drop ∧ labelHits (windowAt at87 3) 0x310 = true ∧
      ∀ w, (windowAt at87 w).kind = .splice → labelHits (windowAt at87 w) 0x310 = false) ∧
    (recOf at87 0).any (fun b => b.state == .onAir) = true := by decide +kernel

/-- Break 710 on air as in `at87`, with a queue, packets emitted, and a mark. -/
def serving (queue : List Extent) (emitted : Nat) (mark : Bool) : State :=
  { at87 with
    breaks := { BreakTable.reset with
      records := BreakTable.reset.records.set 0
        (some { break710 with state := .onAir, replaced := emitted, emitted := emitted, underrunMark := mark }) }
    memory := { AdvertMemory.reset with queues := AdvertMemory.reset.queues.set 0 queue } }

/-- A replaced slot of window 0 with a packet to read, the last one of its extent; with every packet emitted; at the first
underrun fill of the interval with nothing received, and at a later one; under the mark; and with M11 in LATCH. -/
theorem witness_SplicedFrameKeepsPositions_replaced :
    let p := packet 0x7A1 0
    let served := serving [.filled [p] 0, .reserved 128] 1000 false
    let done := serving [] 4800 false
    let empty := serving [.reserved 128] 1000 false
    let marked := serving [.filled [p] 0] 1000 true
    let latch : State := { empty with settings := { empty.settings with
      active := { empty.profile with monitors := defaultMonitors.set mon11 ⟨.latch, 1⟩ } } }
    (∀ s ∈ [served, done, empty, latch, marked], replaces s 0x105 0 0 ∧ (recOf s 0).isSome = true) ∧
    (queueOf served 0 = .filled [p] 0 :: [.reserved 128] ∧ [p][0]? = some p) ∧
    (queueOf empty 0 = [.reserved 128] ∧ queueOf done 0 = []) ∧
    ((monSetting empty mon11).mode = .frame ∧ (monSetting latch mon11).mode = .latch) ∧
    (let r := splicePacket (packet 0x105 0) ⟨served, [], []⟩
     r.1 = packet 0x101 0 ∧ queueOf r.2.state 0 = [.reserved 128]) ∧
    (let r := splicePacket (packet 0x105 0) ⟨done, [], []⟩
     r.1 = nullPacket ∧ (recOf r.2.state 0).any (fun b => b.tails == 1 && b.underruns == 0) = true) ∧
    (let r := splicePacket (packet 0x105 0) ⟨empty, [], []⟩
     r.2.under = [0] ∧ (recOf r.2.state 0).any (fun b => b.underruns == 1 && !b.underrunMark) = true) ∧
    (recOf (splicePacket (packet 0x105 0) ⟨latch, [], []⟩).2.state 0).any (·.underrunMark) = true ∧
    (let r := splicePacket (packet 0x105 0) ⟨empty, [0], [0]⟩
     r.2.under = [0] ∧ r.2.state.monitors = empty.monitors) ∧
    (let r := splicePacket (packet 0x105 0) ⟨marked, [], []⟩
     r.1 = nullPacket ∧ queueOf r.2.state 0 = [.filled [p] 0]) := by
  unfold replaces
  decide +kernel

/-- An enabled window and a label that is not of null packets, with each mask that the statement names; a disabled one. -/
theorem witness_LabelHitsWindow : ∀ mask ∈ [(4095 : Nat), 4080, 0],
    let w : Window := ⟨true, .splice, 0x100, BitVec.ofNat 12 mask, false, 0⟩
    w.enable = true ∧ (0x100 : BitVec 12) ≠ 4095 ∧ labelHits w 0x100 = true ∧ labelHits w 4095 = false ∧
      labelHits { w with enable := false } 0x100 = false := by decide

/-- A label with an entry of the table and one without, twice each. -/
theorem witness_RestampedCountsFollowOn :
    hitsKind at87 .splice 0x120 = true ∧ hitsKind at87 .splice 0x102 = true ∧ hitsKind at87 .splice 0x130 = false ∧
    (restampPackets [packet 0x120 9, packet 0x102 6, packet 0x120 9, packet 0x102 0, packet 0x130 5] at87).1.map
      (·.continuity) = [4, 6, 5, 7, 5] := by decide +kernel

/-- M4 with its persistence of 5: four active evaluations and five. -/
theorem witness_PersistenceOfEvaluations :
    let s := State.reset
    ((monSetting s mon4).mode ≠ .off ∧ (monRec s mon4).count = 0 ∧ (monRec s mon4).condition = false ∧
      (monSetting s mon4).persistence = 5) ∧
    (monRec ((evalCondition mon4 true)^[4] s) mon4).condition = false ∧
    (monRec ((evalCondition mon4 true)^[5] s) mon4).condition = true ∧
    (monRec ((evalEvent mon4)^[5] s) mon4).latched = true := by decide +kernel

/-- Both mute monitors latched, and the condition of M10 still active. -/
theorem witness_ClearFaultsKeepsActiveLatches :
    let s : State := { led with
      monitors := { MonitorUnit.reset with
        recs := (MonitorUnit.reset.recs.set mon4 ⟨0, false, true, true, 1⟩).set mon10 ⟨1, true, true, false, 1⟩ }
      output := { Output.reset with causes := ⟨false, true, false⟩ } }
    s.direction.director = some .a ∧ s.output.causes.fault = faultHolds s ∧
      after (exec (.clearFaults .a []) s) (fun t => (portOf t.ports .a).response.data == [0x00, 0x02, 0x00] &&
        t.output.causes.fault) = true := by decide +kernel

/-- Codes on either side of the table, and a frame that is too short. -/
theorem witness_PortEventsAnswer : ((0x00 : Byte).toNat = 0 ∧ 28 < (0x1D : Byte).toNat) ∧ isFrameError [0x01, 0x00] = true := by
  decide

theorem witness_CommandsNeedDirection :
    State.reset.direction.director ≠ some .a ∧ led.direction.director ≠ some .b ∧
      answerOf .b (.restartSite .b []) led = some (.notDirecting, []) := by decide +kernel

/-- A full table with full orders; the last part and one beyond it. -/
theorem witness_ReadsChangeNothing :
    let s : State := { fullTable .done (numbers 16) with link := { AdvertLink.reset with created := numbers 16 } }
    (s.link.created.length ≤ 16 ∧ s.breaks.terminalOrder.length ≤ 16) ∧
    (answerOf .b (.readStatus .b [10]) s).any (fun x => x.1 == .done && x.2.length ≤ 96) = true ∧
    answerOf .b (.readStatus .b [11]) s = some (.badArgument, []) ∧
    (answerOf .b (.readBreak .b [0, 16, 2]) s).any (fun x => x.1 == .done) = true ∧
    answerOf .b (.readBreak .b [0, 17, 2]) s = some (.noSuchBreak, []) ∧
    (answerOf .b (.readMonitor .b [17]) s).any (fun x => x.1 == .done && x.2.length ≤ 96) = true := by decide +kernel

/-- R163: in part 6 the four counters stand before the gap list, a count byte with as many entries. -/
theorem test_status_timeline :
    let s : State := { State.reset with store := { FrameStore.reset with
      timeline := some { tl600 with gaps := [⟨601, 2⟩, ⟨605, 1⟩] }, plannedDrops := 7 } }
    (answerOf .a (.readStatus .a [6]) s).map (fun x => (x.1, x.2.drop 26)) =
      some (.done, [0, 0, 0, 0, 0, 0, 0, 7, 2, 2, 89, 0, 2, 2, 93, 0, 1]) := by decide +kernel

/-! ### Witnesses: direction, settings, alerts, resets -/

/-- A standing of director and claim. -/
def standing (director claim : Option Port) : State :=
  { led with direction := { led.direction with director := director, claim := claim } }

/-- A port that does not direct with no director, with the other port directing, and with a claim; a port that directs. -/
theorem witness_DirectionCommandsByStanding :
    State.reset.direction.director = none ∧ (standing (some .a) none).direction.director = some (otherPort .b) ∧
    (let s := standing (some .a) (some .b)
     s.direction.director ≠ some .b ∧ s.direction.claim = some .b ∧ s.direction.director = some .a) ∧
    (standing (some .a) none).direction.claim = none ∧
    answerOf .b (.claimDirection .b [0]) (standing (some .a) none) = some (.pending, []) ∧
    after (exec (.releaseDirection .a []) (standing (some .a) (some .b))) (fun t => t.direction.director == some .b &&
      t.direction.claim == none) = true := by decide +kernel

/-- Port A directs, port B claims, at a local time, with a mode of M15. -/
def present15 (mode : Mode) (now : NetTime) : State :=
  { standing (some .a) (some .b) with
    tb := { Timebase.reset with localTime := now }
    settings := { led.settings with active :=
      { defaultProfile with monitors := defaultMonitors.set mon15 ⟨mode, 1⟩ } } }

/-- Presence one tick early, and at the low limit with the other marker and with the last one; the deadline reached
exactly, with M15 in OFF, WARN and LATCH. -/
theorem witness_PresenceIsJudged :
    let v : PresenceState := ⟨⟨0, 0⟩, some false, false, ⟨2, 0⟩⟩
    (∀ mode ∈ [Mode.off, .warn, .latch], ∀ now ∈ [(⟨0, 999999⟩ : NetTime), ⟨0, 1000000⟩, ⟨2, 0⟩],
      (present15 mode now).direction.director = some .a ∧ (present15 mode now).direction.presence = some v ∧
        (monSetting (present15 mode now) mon15).mode = mode) ∧
    timeDiff ⟨0, 999999⟩ v.reference < (100 * 10000 : Nat) ∧ ¬ timeDiff ⟨0, 1000000⟩ v.reference < (100 * 10000 : Nat) ∧
    v.lastMarker ≠ some true ∧ v.lastMarker = some false ∧ 0 ≤ timeDiff ⟨2, 0⟩ v.deadline ∧
    answerOf .a (.presence .a [1]) (present15 .warn ⟨0, 1000000⟩) = some (.done, []) ∧
    answerOf .a (.presence .a [0]) (present15 .warn ⟨0, 1000000⟩) = some (.wrongState, []) ∧
    after (exec .presenceMissing (present15 .latch ⟨2, 0⟩)) (fun t => t.direction.director == some .b) = true := by
  decide +kernel

/-- Both ends of the ids; a value at a limit and one beyond either; a value of an enumeration and none; an Apply pending. -/
theorem witness_WriteSettingStoresWithinRange :
    let pending : State := { led with settings := { led.settings with apply := .next } }
    led.direction.director = some .a ∧ led.settings.apply = .none ∧ pending.settings.apply ≠ .none ∧
    settingClass 1 = some (.numeric 10000 1000000) ∧ settingClass 113 = some (.numeric 1 255) ∧
    settingClass 110 = some (.enumerated [0, 2, 3]) ∧ (1 : Int) ∉ [(0 : Int), 2, 3] ∧
    answerOf .a (.writeSetting .a (settingBytes 1 9999)) led = some (.clamped, beBytes 2 1 ++ beSigned 4 10000) ∧
    answerOf .a (.writeSetting .a (settingBytes 113 256)) led = some (.clamped, beBytes 2 113 ++ beSigned 4 255) ∧
    answerOf .a (.writeSetting .a (settingBytes 5 (-1000000))) led = some (.done, beBytes 2 5 ++ beSigned 4 (-1000000)) ∧
    answerOf .a (.writeSetting .a (settingBytes 110 1)) led = some (.badArgument, []) ∧
    answerOf .a (.writeSetting .a (settingBytes 114 1)) led = some (.badArgument, []) := by decide +kernel

/-- Port A directs with a staged profile, an Apply, an output state and a timeline. -/
def staging (staged : Profile) (form : PendingApply) (st : OutState) (tl : Option Timeline) : State :=
  { led with
    settings := ⟨defaultProfile, staged, form⟩
    output := { Output.reset with state := st }
    store := { FrameStore.reset with timeline := tl } }

/-- Each refusal of Apply Staged, an Apply that waits for the earliest sequence it may, with a start fill above the high
mark, and one that takes effect at once. -/
theorem witness_ApplyStagedTakesEffect :
    let fill : Profile := { defaultProfile with startFill := 4096, trim := 7 }
    let s := staging fill .none .idle (some tl600)
    applyForm [0] = some .next ∧ applyForm [1, 0x02, 0x5A] = some (.atSeq 602) ∧
    (staging fill .next .idle none).settings.apply ≠ .none ∧
    (let p : Profile := { defaultProfile with presenceLow := 2000 }
     p.presenceHigh ≤ p.presenceLow) ∧
    (let p : Profile := { defaultProfile with packets := 8 }
     p.packets ≠ defaultProfile.packets ∧ (staging p .none .waiting none).output.state ≠ .idle) ∧
    ¬ (defaultProfile.frameInterval : Int) ∣ (offsetSum fill - offsetSum defaultProfile) ∧
    (timelineSeq s = some 600 ∧ atOrAfter 601 (600 + 2) = false ∧ atOrAfter 602 (600 + 2) = true ∧
      s.settings.staged.highMark < s.settings.staged.startFill) ∧
    answerOf .a (.applyStaged .a [1, 0x02, 0x5A]) s = some (.clamped, []) ∧
    answerOf .a (.applyStaged .a [1, 0x02, 0x59]) s = some (.tooLate, []) ∧
    after (exec (.applyStaged .a [0]) (staging fill .none .idle none)) (fun t =>
      t.settings.active.trim == 7 && t.settings.active.startFill == 2048) = true := by decide +kernel

/-- The timeline at the boundary of sequence 601, with the frames of 601 and 603 held, an Apply of a profile pending. -/
def applying (p : Profile) : State :=
  { holding (staging p .next .idle (some tl600)) (heldAt 601 tl600.nextBoundary [])
      (heldAt 603 (addTicks tl600.nextBoundary 480000) []) with
    tb := { Timebase.reset with localTime := tl600.nextBoundary, phase := 9000, state := .holdover, holdover := some ⟨800, 400⟩ }
    feeds := ⟨FeedInput.reset ⟨0, 960000⟩, lockedFeed⟩ }

/-- At a boundary: release instants two intervals later (R70), one earlier (R71) and off the grid (R72); limits, path mode
and a monitor's setting changed (R28, R50, R160); and, at once, another N_p with bytes kept of a feed line (R42). -/
theorem witness_ApplyStagedTakesEffect_effect :
    let later : Profile := { defaultProfile with trim := 480000 }
    let earlier : Profile := { defaultProfile with trim := -240000 }
    let off : Profile := { defaultProfile with trim := 7 }
    let blocks : Profile := { defaultProfile with
      pathMode := .select, slewLimit := 5000, uncertainty := 399, monitors := defaultMonitors.set mon10 ⟨.frame, 2⟩ }
    let s : State := { staging { defaultProfile with packets := 8 } .none .idle none with
      lines := ⟨⟨[0xC3], []⟩, [0xA5], []⟩, feeds := ⟨lockedFeed, lockedFeed⟩ }
    let leads (p : Profile) (f : State → Bool) : Bool := after (exec (.boundary true) (applying p)) f
    (∀ p ∈ [later, earlier, off, blocks], (applying p).store.timeline = some tl600 ∧ (applying p).settings.apply = .next ∧
      0 ≤ timeDiff (applying p).tb.localTime tl600.nextBoundary ∧
      (fixCarry (applying p).profile.frameInterval tl600).1 = some 601) ∧
    (offsetSum later - offsetSum defaultProfile = (2 * 240000 : Nat) ∧
      offsetSum earlier - offsetSum defaultProfile = -((1 * 240000 : Nat) : Int)) ∧
    leads later (fun t => t.store.timeline.any (fun tl => tl.runningGaps == 1 && tl.lastSeq == 600) &&
      (slotAt t 0).info?.map (·.release) == some (addTicks tl600.nextBoundary 480000)) = true ∧
    leads earlier (fun t => t.store.timeline.any (fun tl => tl.runningGaps == 0 && tl.lastSeq == 602) &&
      slotAt t 0 == .free && t.store.plannedDrops == 1 &&
      (slotAt t 63).info?.map (·.release) == some (addTicks tl600.nextBoundary 240000)) = true ∧
    leads off (fun t => t.store.timeline.any (fun tl => tl.anchorSeq == 603 &&
        tl.anchorTime == addTicks tl600.nextBoundary 480007) &&
      slotAt t 0 == .free && (monRec t mon5).events == 1) = true ∧
    leads blocks (fun t => t.merge.active == .two && t.tb.phase == 5000 && t.tb.state == .expired) = true ∧
    (s.settings.apply = .none ∧ s.store.timeline = none ∧ s.settings.staged.packets ≠ s.settings.active.packets) ∧
    after (exec (.applyStaged .a [0]) s) (fun t => t.lines == ⟨⟨[], []⟩, [0xA5], []⟩ && (feedOf t .one).acq == .searching &&
      (feedOf t .two).silenceDeadline == ⟨0, 960000⟩) = true := by decide +kernel

/-- The boundary of sequence 601 with an Apply that waits for any sequence, for 601, and for 602. -/
theorem witness_ApplyStagedTakesEffect_boundary : ∀ form ∈ [PendingApply.next, .atSeq 601, .atSeq 602],
    let s : State := { bounded .idle false tl600 with settings := ⟨defaultProfile, { defaultProfile with trim := 7 }, form⟩ }
    s.store.timeline = some tl600 ∧ 0 ≤ timeDiff s.tb.localTime tl600.nextBoundary ∧
      (fixCarry s.profile.frameInterval tl600).1 = some 601 ∧ atOrAfter 601 601 = true ∧ atOrAfter 601 602 = false ∧
      after (exec (.boundary true) s) (fun t => t.settings.active.trim == (if form = .atSeq 602 then 0 else 7)) = true := by
  decide +kernel

theorem witness_DiscardStagedCancels :
    let s := staging { defaultProfile with trim := 7 } .next .idle none
    s.direction.director = some .a ∧ after (exec (.discardStaged .a []) s) (fun t => t.settings == led.settings) = true := by
  decide +kernel

/-- The mask level 2, and source 16, which cannot be disabled; port A directs. -/
theorem witness_DeliverableSourcesDriveLine :
    (2 : Byte).toNat ≤ 2 ∧ (0 : Source).val ∉ [11, 12, 13, 16] ∧ led.direction.director = some .a ∧
    after (exec (.setAlertMask .b [2]) (raise srcMuted led)) (fun t => alertLine t .b) = true ∧
    answerOf .b (.setAlertRouting .b [16, 0]) led = some (.badArgument, []) := by decide +kernel

/-- Sources 9 and 8 deliverable, the higher number with the higher priority level; and none deliverable. -/
theorem witness_TakeAlertChoosesSource :
    let s0 := raise srcBreak (raise srcAbandoned led)
    let s : State := { s0 with alerts := { s0.alerts with priority := s0.alerts.priority.set 9 true } }
    (∀ src, deliverable led .a src = false) ∧ deliverable s .a 9 = true ∧
    (∀ x, deliverable s .a x = true → s.alerts.priority.get x = true → s.alerts.priority.get 9 = true) ∧
    (∀ x, deliverable s .a x = true → s.alerts.priority.get x = s.alerts.priority.get 9 → 9 ≤ x) ∧
    answerOf .a (.takeAlert .a []) s = some (.done, [9]) := by decide +kernel

/-- Port A directs with an interval in delivery. -/
theorem witness_SiteRestartKeepsTimeAndDirection :
    let s : State := { led with output := { Output.reset with
      state := .running, interval := some ⟨⟨1, 0⟩, none, .gap, [(nullPacket, ⟨1, 0⟩)], 0, none⟩ } }
    s.direction.director = some .a ∧
      after (exec (.restartSite .a []) s) (fun t => t.output.interval.isSome && t.output.state == .idle) = true := by
  decide +kernel

/-! ### Witnesses: invariants -/

/-- A state in the midst of things: the output Running, port A directing and port B claiming, two breaks, two frames
held, a frame in progress, a loop at its limits; port A's Set Mute waits. -/
def lively : State :=
  { beside break710 with
    tb := { tb291 with freq := 20000, phase := -10000, carry := -99 }
    feeds := (receiving 8 .stored).feeds
    settings := { (receiving 8 .stored).settings with apply := .next }
    store := { FrameStore.reset with
      slots := (FrameStore.reset.slots.set 0 (heldAt 601 ⟨1, 0⟩ (List.replicate 8 nullPacket))).set 63
        (.emitting ⟨600, ⟨1, 0⟩, .one, ⟨1, 0⟩⟩ 0 (List.replicate 8 nullPacket)) }
    output := { Output.reset with state := .running, muteLine := false }
    direction := { led.direction with claim := some .b }
    pending := [.setMute .a [1]] }

/-- The step that the invariants' statements speak of. -/
theorem witness_lively_steps : ∃ t, step lively = .next t := by
  obtain ⟨t, h, -⟩ := next_of_after (f := fun t => t.output.state == .muted) (o := step lively) (by decide +kernel)
  exact ⟨t, h⟩

theorem witness_StepKeepsOutputAndFaultCause : OutputInv lively ∧ lively.output.state = .running := by
  unfold OutputInv
  decide +kernel

theorem witness_StepKeepsDirection : DirectionInv lively ∧ lively.direction.claim = some .b := by
  unfold DirectionInv
  decide +kernel

theorem witness_StepKeepsSequencesApart : StoreInv lively ∧ (slotAt lively 63).carries 600 = true := by
  have h : ∀ i j : Fin 64, ∀ a ∈ (slotAt lively i).info?, ∀ b ∈ (slotAt lively j).info?, a.seq = b.seq → i = j := by
    decide +kernel
  have seq {v : Slot} {q : Seq} (hv : v.carries q = true) : ∃ a ∈ v.info?, a.seq = q := by
    cases v <;> simp_all [Slot.carries, Slot.info?]
  refine ⟨fun i j q hi hj => ?_, by decide +kernel⟩
  obtain ⟨a, ha, rfl⟩ := seq hi
  obtain ⟨b, hb, e⟩ := seq hj
  exact h i j a ha b hb e.symm

/-- Logs 1 and 2: each event of the device's own is listed once where its ground stands, at the limit of its time; none is
listed after reset. -/
theorem test_events_due :
    (∀ x ∈ [(at296, Instr.adjustmentPeriodEnd), (secondDue .free, .secondsChange), (missAt .tracking 0, .missingPulseDeadline),
        (timed { Timebase.reset with localTime := ⟨0, 960000⟩ }, .silenceInterval .two),
        ({ led with output := { Output.reset with interval := some ⟨⟨1, 0⟩, none, .gap, [(nullPacket, ⟨0, 0⟩)], 0, none⟩ } },
          .packetPresentation),
        ({ led with output := { Output.reset with state := .running, muteLine := false, muteAt := some ⟨0, 0⟩ } },
          .muteLineAssert),
        (querying, .messageSend),
        (linked led none (some { fetch710 .sent with deadline := some ⟨0, 0⟩ }) none, .replyTimeout 1),
        (holds { break710 with entries := [newEntry 5001, ⟨5002, .unknown, none, 0, 0, some 0⟩] }, .requeryTimerExpiry 0 1),
        ({ led with tb := { Timebase.reset with localTime := ⟨2, 0⟩ } }, .presenceMissing)],
      ((dueEvents x.1).filter (· == x.2)).length = 1) ∧
    (dueEvents (bounded .idle false tl600)).any (fun | .boundary _ => true | _ => false) = true ∧
    dueEvents State.reset = [] := by decide +kernel

/-- The state `lively`, with a Fetch of 128 packets of record 0 awaiting in slot 0, its reservation behind packets received,
an aborted Fetch of 64 in slot 1, and a record that is done. -/
def fetching : State :=
  let q (n : Nat) : Request := ⟨.fetch 512 n, 0, 710, 0, 5001, .sent, none, false, false⟩
  let s := linked lively (some (q 128)) (some { q 64 with aborted := true }) none
  { s with
    breaks := { s.breaks with
      records := s.breaks.records.set 3 (some { newBreak 5 .feed 0 1 1 [5] with state := .done }), terminalOrder := [3] }
    memory := { AdvertMemory.reset with
      queues := AdvertMemory.reset.queues.set 0 [.filled [nullPacket, nullPacket] 1, .reserved 128]
      detached := AdvertMemory.reset.detached.set 1 64 } }

/-- A request of `fetching` that is not aborted is that of slot 0. -/
theorem fetching_request {k : Fin 2} {q : Request} {r : Fin 16} {n : Nat} (hq : slotOf fetching k = some q)
    (h : fetchesFor q r n) : k = 0 ∧ r = 0 ∧ n = 128 := by
  have p : ∀ k, ∀ q ∈ slotOf fetching k, q.aborted = false → k = 0 ∧ q.record = 0 ∧ q.kind = .fetch 512 128 := by
    decide +kernel
  obtain ⟨rfl, hr, hk⟩ := p k q hq h.1
  obtain ⟨-, rfl, o, ho⟩ := h
  rw [hk] at ho
  cases ho
  exact ⟨rfl, hr, rfl⟩

theorem witness_StepKeepsBreakRecords : BreaksInv lively ∧ AdvertInv fetching ∧ BreaksInv fetching ∧
    (recOf lively 0).isSome = true ∧ (recOf lively 9).isSome = true ∧
    after (step fetching) (fun t => queueOf t 0 == queueOf fetching 0) = true := by
  have queues : ∀ r, queueShape (queueOf fetching r) = true ∧
      (queueOf fetching r ≠ [] → ((recOf fetching r).any fun b => b.state == .fetching) = true) ∧
      ∀ x ∈ (queueOf fetching r).getLast?, x = .reserved 128 ∧ r = 0 := by decide +kernel
  have slots : ∀ k, ∀ q ∈ slotOf fetching k, (q.aborted = true → fetching.memory.detached.get k = q.kind.count) ∧
      ((recOf fetching q.record).any fun b => b.state.live && b.id == q.breakId) = true := by decide +kernel
  have free : ∀ k, (∀ q ∈ slotOf fetching k, q.aborted = false) → fetching.memory.detached.get k = 0 := by decide +kernel
  have order : ∀ r, r ∈ fetching.breaks.terminalOrder ↔ ((recOf fetching r).any fun b => !b.state.live) = true := by
    decide +kernel
  have zero : (queueOf fetching 0).getLast? = some (.reserved 128) ∧ ∃ q, slotOf fetching 0 = some q ∧
      q.aborted = false ∧ q.record = 0 ∧ q.kind = .fetch 512 128 := ⟨by decide +kernel, _, rfl, by decide +kernel⟩
  refine ⟨breaksInv_of (by decide +kernel) (by decide +kernel), ⟨by decide +kernel, fun r => ⟨(queues r).1, fun h => ?_,
    fun n hn => ?_⟩, free, fun k q hq => ⟨(slots k q hq).1, fun _ => ?_, fun r n h => ?_⟩, by decide +kernel,
    fun r => (order r).trans ?_⟩, breaksInv_of (by decide +kernel) (by decide +kernel), by decide +kernel⟩
  · obtain ⟨b, hb, hs⟩ := (Option.any_eq_true ..).mp ((queues r).2.1 h)
    exact ⟨b, hb, .inl (eq_of_beq hs)⟩
  · obtain ⟨e, rfl⟩ := (queues r).2.2 _ hn
    cases e
    obtain ⟨q, hq, ha, hr, hk⟩ := zero.2
    exact ⟨0, q, hq, ha, hr, 512, hk⟩
  · obtain ⟨b, hb, hs⟩ := (Option.any_eq_true ..).mp (slots k q hq).2
    simp only [Bool.and_eq_true, beq_iff_eq] at hs
    exact ⟨b, hb, hs⟩
  · obtain ⟨rfl, rfl, rfl⟩ := fetching_request hq h
    exact ⟨zero.1, fun j p m hj hp hm => hj (fetching_request hp hm).1⟩
  · simp only [Option.any_eq_true, Bool.not_eq_true']

theorem witness_StepKeepsLoopLimits : LoopInv lively ∧ lively.tb.carry = -99 := by
  unfold LoopInv
  decide +kernel

/-- A value lies in the range of a numeric setting. -/
def within (v : Int) : SettingClass → Bool
  | .numeric low high => decide (low ≤ v ∧ v ≤ high)
  | .enumerated _ => true

theorem legalProfile_of {p : Profile} (h : ∀ id ∈ List.range 114, ∀ c ∈ settingClass id, within (settingValue p id) c = true)
    (h15 : (p.monitors.get mon15).mode ≠ .frame) : legalProfile p := by
  have beyond (n : Nat) : settingClass (n + 114) = none := by simp [settingClass]
  refine ⟨fun id low high hc => ?_, h15⟩
  by_cases hid : id < 114
  · simpa [within] using h id (List.mem_range.mpr hid) _ hc
  · obtain ⟨n, rfl⟩ : ∃ n, id = n + 114 := ⟨id - 114, by omega⟩
    rw [beyond] at hc
    cases hc

theorem witness_StepKeepsProfilesLegal : ProfileInv lively :=
  ⟨legalProfile_of (by decide +kernel) (by decide +kernel), legalProfile_of (by decide +kernel) (by decide +kernel)⟩

theorem witness_StepKeepsFrameFormat : FormatInv lively ∧ (feedOf lively .one).inProgress.isSome = true := by
  have h : ∀ i : Fin 64, ∀ ps ∈ (slotAt lively i).packets?, ps.length = lively.profile.packets := by decide +kernel
  have hf : ∀ f ∈ (feedOf lively .one).inProgress, field f.header 15 2 = lively.profile.packets := by decide +kernel
  have hs : (feedOf lively .two).inProgress = none := by decide +kernel
  refine ⟨⟨fun i f hi => ?_, fun i ps hi => h i ps hi⟩, by decide +kernel⟩
  cases i with
  | one => exact hf f hi
  | two => rw [hs] at hi; cases hi

end Sys2Proof.Tests
end

section
/-! Sequence order and frame ranges (R3). Every relation is one bound on the circular distance `(a - b).toNat`, so the
laws here say what that distance is, how it turns round and how two of them from one sequence compare. -/

namespace Sys2Proof.Machine

open Sys2Proof

/-! ### The circular distance -/

/-- The distance as R3 writes it, d = (a − b) mod 65,536. -/
theorem distance_eq_mod (a b : Seq) : (a - b).toNat = (a.toNat + 65536 - b.toNat) % 65536 := by
  rw [BitVec.toNat_sub]
  have hb := b.isLt
  congr 1
  omega

theorem distance_eq_zero_iff (a b : Seq) : (a - b).toNat = 0 ↔ a = b :=
  (BitVec.toNat_inj (y := 0)).trans sub_eq_zero

theorem distance_swap (a b : Seq) : (b - a).toNat = (65536 - (a - b).toNat) % 65536 := by
  rw [← neg_sub a b, BitVec.toNat_neg]

/-- Where both stretches start behind q, the nearer start lies ahead of the farther one by the difference. -/
theorem distance_between_starts {q a b : Seq} (h : (q - b).toNat ≤ (q - a).toNat) :
    (b - a).toNat = (q - a).toNat - (q - b).toNat := by
  rw [← sub_sub_sub_cancel_left a b q, BitVec.toNat_sub_of_le h]

theorem distance_add_ofNat (first : Seq) {k : Nat} (hk : k < 65536) :
    (first + BitVec.ofNat 16 k - first).toNat = k := by
  rw [BitVec.add_comm, BitVec.add_sub_cancel, BitVec.toNat_ofNat, Nat.mod_eq_of_lt hk]

theorem add_ofNat_distance (q first : Seq) : first + BitVec.ofNat 16 (q - first).toNat = q := by
  rw [BitVec.ofNat_toNat, BitVec.setWidth_eq, BitVec.add_comm, BitVec.sub_add_cancel]

/-! ### The relations as bounds on the distance -/

@[simp] theorem follows_iff (a b : Seq) : follows a b = true ↔ 1 ≤ (a - b).toNat ∧ (a - b).toNat ≤ 32767 :=
  decide_eq_true_iff

@[simp] theorem atOrAfter_iff (a b : Seq) : atOrAfter a b = true ↔ (a - b).toNat ≤ 32767 :=
  decide_eq_true_iff

@[simp] theorem inRange_iff (q first : Seq) (n : Nat) : inRange q first n = true ↔ (q - first).toNat < n :=
  decide_eq_true_iff

theorem follows_swap_iff (a b : Seq) : follows b a = true ↔ 32769 ≤ (a - b).toNat := by
  rw [follows_iff, distance_swap]
  have hd := (a - b).isLt
  omega

theorem atOrAfter_swap_iff (a b : Seq) : atOrAfter b a = true ↔ (a - b).toNat = 0 ∨ 32769 ≤ (a - b).toNat := by
  rw [atOrAfter_iff, distance_swap]
  have hd := (a - b).isLt
  omega

/-! ### Frame ranges -/

theorem inRange_first (first : Seq) {n : Nat} (hn : 1 ≤ n) : inRange first first n = true := by
  rw [inRange_iff, (distance_eq_zero_iff first first).mpr rfl]
  exact hn

/-- A range that does not go round holds the sequences first, first + 1 and so on. -/
theorem inRange_iff_exists_offset (q first : Seq) {n : Nat} (hn : n ≤ 65536) :
    inRange q first n = true ↔ ∃ k, k < n ∧ q = first + BitVec.ofNat 16 k := by
  rw [inRange_iff]
  constructor
  · exact fun h => ⟨_, h, (add_ofNat_distance q first).symm⟩
  · rintro ⟨k, hk, rfl⟩
    rwa [distance_add_ofNat first (by omega)]

theorem offset_injective (first : Seq) {k j : Nat} (hk : k < 65536) (hj : j < 65536)
    (h : first + BitVec.ofNat 16 k = first + BitVec.ofNat 16 j) : k = j := by
  rw [← distance_add_ofNat first hk, h, distance_add_ofNat first hj]

/-- Of two starts behind a shared sequence, the nearer one lies in the other's range. -/
theorem inRange_start_of_shared {q a b : Seq} {n : Nat} (hq : inRange q a n = true)
    (h : (q - b).toNat ≤ (q - a).toNat) : inRange b a n = true := by
  rw [inRange_iff] at hq ⊢
  rw [distance_between_starts h]
  omega

theorem rangesMeet_iff_exists_shared (f1 f2 : Seq) {n1 n2 : Nat} (h1 : 1 ≤ n1) (h2 : 1 ≤ n2) :
    rangesMeet f1 n1 f2 n2 = true ↔ ∃ q, inRange q f1 n1 = true ∧ inRange q f2 n2 = true := by
  rw [rangesMeet, Bool.or_eq_true]
  constructor
  · rintro (h | h)
    · exact ⟨f1, inRange_first f1 h1, h⟩
    · exact ⟨f2, h, inRange_first f2 h2⟩
  · rintro ⟨q, hq1, hq2⟩
    rcases Nat.le_total (q - f1).toNat (q - f2).toNat with h | h
    · exact .inl (inRange_start_of_shared hq2 h)
    · exact .inr (inRange_start_of_shared hq1 h)

/-- Settles O1, by the bound on the circular distance that each relation is; two ranges with a shared sequence meet
because the start nearer to it lies in the other range. -/
theorem sequenceOrderAndRanges : Obligations.SequenceOrderAndRanges := by
  refine ⟨?order, ?distance, ?offsets, ?ranges⟩
  case order =>
    rintro a b d rfl
    rw [← distance_eq_mod]
    exact ⟨distance_eq_zero_iff a b, follows_iff a b, atOrAfter_iff a b, follows_swap_iff a b, atOrAfter_swap_iff a b⟩
  case distance =>
    intro q first n
    rw [← distance_eq_mod]
    exact inRange_iff q first n
  case offsets =>
    exact fun q first n hn => ⟨inRange_iff_exists_offset q first (by omega),
      fun k j hk hj => offset_injective first (by omega) (by omega)⟩
  case ranges =>
    exact fun f1 f2 n1 n2 h1 _ h2 _ => rangesMeet_iff_exists_shared f1 f2 h1 h2

end Sys2Proof.Machine
end

section
/-! Feed events at an input (R34 to R41). A frame event changes the inputs at its own input alone, and what the store and the
Break Table make of a completed frame leaves the inputs as they are; so an input after a completion or a silence interval is
its acquisition state machine taken once. -/

namespace Sys2Proof.Machine

open Sys2Proof

/-! ### The items of an input -/

@[simp] theorem setFeed_feeds (i : InputNo) (f : FeedInput) (s : State) :
    (setFeed i f s).feeds = setInputOf s.feeds i f := rfl

@[simp] theorem setFeed_settings (i : InputNo) (f : FeedInput) (s : State) : (setFeed i f s).settings = s.settings := rfl

@[simp] theorem feedOf_setFeed_self (i : InputNo) (f : FeedInput) (s : State) : feedOf (setFeed i f s) i = f :=
  inputOf_setInputOf_self ..

@[simp] theorem feedOf_keepFeed (i j : InputNo) (kept : List Byte) (s : State) : feedOf (keepFeed i kept s) j = feedOf s j :=
  rfl

/-- Equal inputs have equal items. -/
theorem feedOf_congr {s t : State} (h : t.feeds = s.feeds) (i : InputNo) : feedOf t i = feedOf s i := by
  rw [feedOf, feedOf, h]

/-! ### Path Merge and the source of an input leave the inputs -/

@[simp] theorem switchPath_feeds (i : InputNo) (s : State) : (switchPath i s).feeds = s.feeds := rfl

@[simp] theorem setRevert_feeds (c : Option Counter) (s : State) : (setRevert c s).feeds = s.feeds := rfl

@[simp] theorem proveRevert_feeds (i : InputNo) (before after : AcqState) (good : Bool) (s : State) :
    (proveRevert i before after good s).feeds = s.feeds := by
  unfold proveRevert
  split
  · split
    · rfl
    · split <;> rfl
  · rfl

@[simp] theorem mergeEvent_feeds (i : InputNo) (before after : AcqState) (good : Bool) (s : State) :
    (mergeEvent i before after good s).feeds = s.feeds := by
  unfold mergeEvent
  split_ifs
  · rfl
  · rfl
  · exact proveRevert_feeds ..

@[simp] theorem raiseIfChanged_feeds (i : InputNo) (before after : AcqState) (s : State) :
    (raiseIfChanged i before after s).feeds = s.feeds := by
  unfold raiseIfChanged
  split <;> rfl

/-! ### The store leaves the inputs -/

@[simp] theorem freeSlot_feeds (j : Fin 64) (s : State) : (freeSlot j s).feeds = s.feeds := rfl

@[simp] theorem setTimeline_feeds (tl : Option Timeline) (s : State) : (setTimeline tl s).feeds = s.feeds := rfl

@[simp] theorem countDuplicate_feeds (s : State) : (countDuplicate s).feeds = s.feeds := rfl

@[simp] theorem compareCopy_feeds (held check : BitVec 32) (s : State) : (compareCopy held check s).feeds = s.feeds := by
  unfold compareCopy
  split <;> simp

@[simp] theorem becomeHeld_feeds (j : Fin 64) (info : SlotInfo) (check : BitVec 32) (packets : List ServicePacket)
    (s : State) : (becomeHeld j info check packets s).feeds = s.feeds := by
  unfold becomeHeld
  dsimp only
  split <;> rfl

@[simp] theorem continuityCheck_feeds (j : Fin 64) (info : SlotInfo) (check : BitVec 32) (packets : List ServicePacket)
    (s : State) : (continuityCheck j info check packets s).feeds = s.feeds := by
  unfold continuityCheck
  split
  · simp
  · extract_lets tf d
    split_ifs <;> simp

@[simp] theorem marginCheck_feeds (j : Fin 64) (info : SlotInfo) (check : BitVec 32) (packets : List ServicePacket)
    (s : State) : (marginCheck j info check packets s).feeds = s.feeds := by
  unfold marginCheck
  extract_lets margin
  split_ifs <;> simp

@[simp] theorem completeGood_feeds (fate : Fate) (i : InputNo) (q : Seq) (check : BitVec 32) (packets : List ServicePacket)
    (s : State) : (completeGood fate i q check packets s).feeds = s.feeds := by
  unfold completeGood
  cases fate with
  | notOffered => rfl
  | refused => rfl
  | copy => dsimp only; split <;> simp
  | stored =>
    dsimp only
    split
    · rfl
    · split
      · simp
      · split <;> simp

@[simp] theorem completeBad_feeds (fate : Fate) (i : InputNo) (q : Seq) (s : State) :
    (completeBad fate i q s).feeds = s.feeds := by
  unfold completeBad
  split
  · split <;> rfl
  · rfl

/-! ### The Break Table leaves the inputs -/

@[simp] theorem setRec_feeds (r : Fin 16) (b : Option BreakRec) (s : State) : (setRec r b s).feeds = s.feeds := rfl

@[simp] theorem countCue_feeds (f : CueCounters → CueCounters) (s : State) : (countCue f s).feeds = s.feeds := rfl

@[simp] theorem placeBreak_feeds (r : Fin 16) (b : BreakRec) (s : State) : (placeBreak r b s).feeds = s.feeds := rfl

@[simp] theorem refuseLate_feeds (s : State) : (refuseLate s).feeds = s.feeds := rfl

@[simp] theorem refuseConflict_feeds (s : State) : (refuseConflict s).feeds = s.feeds := by
  simp [refuseConflict]

@[simp] theorem dropRequests_feeds (r : Fin 16) (s : State) : (dropRequests r s).feeds = s.feeds := by
  rw [(dropRequests_kept r s).1]

@[simp] theorem terminate_feeds (r : Fin 16) (final : BreakState) (cause : TermCause) (boundary : Option Seq) (s : State) :
    (terminate r final cause boundary s).feeds = s.feeds := by
  unfold terminate
  split
  · rfl
  · dsimp only
    split_ifs <;> simp

@[simp] theorem cancelRecord_feeds (r : Fin 16) (b : BreakRec) (s : State) : (cancelRecord r b s).feeds = s.feeds := by
  unfold cancelRecord
  split <;> simp

@[simp] theorem announceHeld_feeds (r : Fin 16) (b : BreakRec) (c : Cue) (s : State) :
    (announceHeld r b c s).feeds = s.feeds := by
  unfold announceHeld
  split_ifs <;> simp

@[simp] theorem announceNew_feeds (c : Cue) (s : State) : (announceNew c s).feeds = s.feeds := by
  unfold announceNew
  split_ifs
  · rfl
  · simp
  · split <;> simp

@[simp] theorem announceCue_feeds (c : Cue) (s : State) : (announceCue c s).feeds = s.feeds := by
  unfold announceCue
  split
  · simp
  · split <;> simp

@[simp] theorem cancelCue_feeds (c : Cue) (s : State) : (cancelCue c s).feeds = s.feeds := by
  unfold cancelCue
  split
  · rfl
  · split
    · rfl
    · split <;> simp

@[simp] theorem returnCue_feeds (c : Cue) (s : State) : (returnCue c s).feeds = s.feeds := by
  unfold returnCue
  split
  · rfl
  · split
    · rfl
    · split <;> rfl

@[simp] theorem takeCue_feeds (s : State) (c : Cue) : (takeCue s c).feeds = s.feeds := by
  unfold takeCue
  split_ifs <;> simp

@[simp] theorem passCues_feeds (fate : Fate) (cues : List Cue) (s : State) : (passCues fate cues s).feeds = s.feeds := by
  unfold passCues
  split
  · rfl
  · exact List.foldlRecOn _ takeCue (motive := fun t : State => t.feeds = s.feeds) rfl
      fun t ht c _ => (takeCue_feeds t c).trans ht

/-! ### An input after a frame event, a completion and a silence interval -/

/-- A frame event leaves at its input what the acquisition state machine makes of the input's items. -/
theorem feedOf_frameEvent (i : InputNo) (good : Bool) (s : State) : feedOf (frameEvent i good s) i =
    if good then goodFrame s.profile.verify (feedOf s i) else badFrame s.profile.loss (feedOf s i) := by
  simp [feedOf, frameEvent]

theorem countCompletion_acquisition (cause : Option BadCause) (f : FeedInput) :
    (countCompletion cause f).acq = f.acq ∧ (countCompletion cause f).goodRun = f.goodRun ∧
      (countCompletion cause f).badRun = f.badRun := by
  unfold countCompletion
  split <;> exact ⟨rfl, rfl, rfl⟩

/-- R34: the items of an input at its completion, counted and with the silence deadline set, before acquisition. -/
def completedFeed (cause : Option BadCause) (deadline : NetTime) (f : FeedInput) : FeedInput :=
  { countCompletion cause f with silenceDeadline := deadline, inProgress := none }

/-- A completion counted leaves acquisition to the state machine. -/
theorem completedFeed_acquisition (cause : Option BadCause) (deadline : NetTime) (f : FeedInput) :
    (completedFeed cause deadline f).acq = f.acq ∧ (completedFeed cause deadline f).goodRun = f.goodRun ∧
      (completedFeed cause deadline f).badRun = f.badRun :=
  countCompletion_acquisition cause f

theorem feedOf_completion (i : InputNo) (cause : Option BadCause) (s : State) :
    let f := completedFeed cause (addTicks s.tb.localTime (silenceTicks s.profile)) (feedOf s i)
    feedOf (completion i cause s) i =
      if cause.isNone then goodFrame s.profile.verify f else badFrame s.profile.loss f := by
  simp [completion, feedOf_frameEvent, State.profile, completedFeed]

theorem feedOf_silence (i : InputNo) (s : State) : feedOf (silence i s) i = badFrame s.profile.loss
    { feedOf s i with
      badFrames := satInc (feedOf s i).badFrames
      silenceDeadline := addTicks (feedOf s i).silenceDeadline (silenceTicks s.profile) } := by
  simp [silence, feedOf_frameEvent, State.profile]

/-- A good frame past its header leaves its input as its completion does, but for the invalid cues counted. -/
theorem feedOf_completeFrame_good {i : InputNo} {fr : InProgress} {rest : List Byte} {body : FrameBody}
    (h : bodyFault fr.header rest body = none) (s : State) : feedOf (completeFrame i fr rest body s) i =
      { feedOf (completion i none s) i with
        cuesSkipped := satInc^[(body.cues.filter fun c => !cueValid c).length]
          (feedOf (completion i none s) i).cuesSkipped } := by
  unfold completeFrame
  simp only [h]
  rw [feedOf_congr (completeGood_feeds ..), feedOf_congr (passCues_feeds ..), skipInvalid]
  exact feedOf_setFeed_self ..

/-- A bad frame past its header leaves its input as its completion does. -/
theorem feedOf_completeFrame_bad {i : InputNo} {fr : InProgress} {rest : List Byte} {body : FrameBody} {cause : BadCause}
    (h : bodyFault fr.header rest body = some cause) (s : State) :
    feedOf (completeFrame i fr rest body s) i = feedOf (completion i (some cause) s) i := by
  unfold completeFrame
  simp only [h]
  exact feedOf_congr (completeBad_feeds ..) i

/-! ### Bytes that complete a header or a frame (R6) -/

/-- A header begins with the sync word. -/
theorem isHeader_starts {h : List Byte} (hh : isHeader h = true) :
    h.length = 20 ∧ ∃ tail, h = 0xC3 :: 0x5E :: tail := by
  obtain ⟨hlen, hsync⟩ : h.length = 20 ∧ headerSync h = true := by simpa [isHeader] using hh
  refine ⟨hlen, ?_⟩
  match h, hlen with
  | a :: b :: tail, _ =>
    have hab : a.toNat * 256 + b.toNat = 0xC35E := by simpa [headerSync, field, beNat] using hsync
    have ha : a = 0xC3 := BitVec.eq_of_toNat_eq (by simp; omega)
    have hb : b = 0x5E := BitVec.eq_of_toNat_eq (by simp; omega)
    exact ⟨tail, by rw [ha, hb]⟩

/-- The hunt passes over bytes among which no sync word begins, up to a sync word. -/
theorem hunt_append_sync (tail : List Byte) : ∀ before : List Byte,
    (∀ k, k < before.length → ((before ++ 0xC3 :: 0x5E :: tail).drop k).take 2 ≠ [0xC3, 0x5E]) →
      hunt (before ++ 0xC3 :: 0x5E :: tail) = 0xC3 :: 0x5E :: tail
  | [], _ => rfl
  | b :: before, hno => by
    have hskip : ¬ (b = 0xC3 ∧ ((before ++ 0xC3 :: 0x5E :: tail).head?.getD 0x5E) = 0x5E) := by
      rintro ⟨rfl, hnext⟩
      refine hno 0 (by simp) ?_
      cases before with
      | nil => simp at hnext
      | cons c before => simpa using hnext
    calc hunt (b :: before ++ 0xC3 :: 0x5E :: tail)
        = hunt (before ++ 0xC3 :: 0x5E :: tail) := if_neg hskip
      _ = 0xC3 :: 0x5E :: tail := hunt_append_sync tail before fun k hk => hno (k + 1) (by simpa using hk)

/-- Bytes that complete a header that is not good are that event, and the hunt resumes at its third byte. -/
theorem feedArrival_of_endsHeader_bad {s : State} {i : InputNo} {bytes h : List Byte} {cause : BadCause}
    (hends : endsHeader s i bytes h) (hfault : headerFault s.profile h = some cause) :
    feedArrival s i bytes = .event (.rejected cause) (hunt (h.drop 2)) := by
  obtain ⟨hidle, hheader, before, hbytes, hno⟩ := hends
  obtain ⟨hlen, tail, rfl⟩ := isHeader_starts hheader
  have hfound := hunt_append_sync tail before hno
  simp only [feedArrival, hidle, headerArrival, hbytes, hfound, hlen, hfault, Nat.lt_irrefl, if_false]

/-- Bytes that complete a frame past its accepted header are that event. -/
theorem feedArrival_of_endsFrame {s : State} {i : InputNo} {bytes : List Byte} {fr : InProgress} {rest : List Byte}
    {body : FrameBody} (hends : endsFrame s i bytes fr rest body) :
    feedArrival s i bytes = .event (.whole fr rest body) [] := by
  obtain ⟨hprogress, hbytes, hbody⟩ := hends
  simp only [feedArrival, hprogress, bodyArrival, hbytes, hbody]

/-! ### The commands of a frame event -/

theorem exec_frameCompletion_of_endsHeader {s : State} {i : InputNo} {bytes h : List Byte} {cause : BadCause}
    (hends : endsHeader s i bytes h) (hfault : headerFault s.profile h = some cause) :
    exec (.frameCompletion i bytes) s = .next (completion i (some cause) (keepFeed i (hunt (h.drop 2)) s)) := by
  change execFrameCompletion i bytes s = _
  rw [execFrameCompletion, feedArrival_of_endsHeader_bad hends hfault]
  rfl

theorem exec_frameCompletion_of_endsFrame {s : State} {i : InputNo} {bytes : List Byte} {fr : InProgress}
    {rest : List Byte} {body : FrameBody} (hends : endsFrame s i bytes fr rest body) :
    exec (.frameCompletion i bytes) s = .next (completeFrame i fr rest body (keepFeed i [] s)) := by
  change execFrameCompletion i bytes s = _
  rw [execFrameCompletion, feedArrival_of_endsFrame hends]
  rfl

theorem exec_silenceInterval_of_due {s : State} {i : InputNo}
    (hdue : 0 ≤ timeDiff s.tb.localTime (feedOf s i).silenceDeadline) :
    exec (.silenceInterval i) s = .next (silence i s) :=
  congrArg Host.Outcome.next (if_pos (decide_eq_true hdue))

end Sys2Proof.Machine
end

section
/-! An input in Locked at a frame event (R38). -/

namespace Sys2Proof.Machine

open Sys2Proof

/-- R38: an input as a bad frame leaves it that found it in Locked. -/
def LeftLocked (loss : Nat) (f : FeedInput) : Prop :=
  (loss ≤ 1 → f.acq = .lost ∧ f.goodRun = 0 ∧ f.badRun = 0) ∧
  (1 < loss → f.acq = .impaired ∧ f.goodRun = 0 ∧ f.badRun = 1)

theorem goodFrame_of_locked {f : FeedInput} (h : f.acq = .locked) (v : Nat) : goodFrame v f = f := by
  simp only [goodFrame, h]

theorem badFrame_of_locked {f : FeedInput} (h : f.acq = .locked) (l : Nat) : LeftLocked l (badFrame l f) := by
  constructor <;> intro hl
  · simp [badFrame, h, hl, FeedInput.enter]
  · simp [badFrame, h, Nat.not_le.mpr hl]

/-- In Locked a good frame leaves the state and both runs. -/
theorem completion_good_of_locked {s : State} {i : InputNo} (h : (feedOf s i).acq = .locked) :
    (feedOf (completion i none s) i).acq = .locked ∧
      (feedOf (completion i none s) i).goodRun = (feedOf s i).goodRun ∧
      (feedOf (completion i none s) i).badRun = (feedOf s i).badRun := by
  obtain ⟨hacq, hgood, hbad⟩ := completedFeed_acquisition none
    (addTicks s.tb.localTime (silenceTicks s.profile)) (feedOf s i)
  rw [feedOf_completion, Option.isNone_none, if_pos rfl, goodFrame_of_locked (hacq.trans h)]
  exact ⟨hacq.trans h, hgood, hbad⟩

theorem completion_bad_of_locked {s : State} {i : InputNo} (h : (feedOf s i).acq = .locked) (cause : BadCause) :
    LeftLocked s.profile.loss (feedOf (completion i (some cause) s) i) := by
  rw [feedOf_completion]
  exact badFrame_of_locked ((completedFeed_acquisition ..).1.trans h) _

theorem silence_of_locked {s : State} {i : InputNo} (h : (feedOf s i).acq = .locked) :
    LeftLocked s.profile.loss (feedOf (silence i s) i) := by
  rw [feedOf_silence]
  apply badFrame_of_locked
  exact h

/-- Settles O16: the state machine, taken once, leaves Locked at a bad frame and stays at a good one, and the rest of each
command leaves acquisition as the state machine made it. -/
theorem lockedInputAtFrameEvents : Obligations.LockedInputAtFrameEvents := by
  intro s i hlocked
  have hkept (kept : List Byte) : (feedOf (keepFeed i kept s) i).acq = .locked := hlocked
  refine ⟨fun bytes fr rest body hends => ?frame, fun bytes h hends hfault => ?header, fun hdue => ?silence⟩
  case frame =>
    refine ⟨_, exec_frameCompletion_of_endsFrame hends, fun hgood => ?_, fun hbad => ?_⟩
    · rw [feedOf_completeFrame_good hgood]
      exact completion_good_of_locked (hkept [])
    · obtain ⟨cause, hcause⟩ := Option.ne_none_iff_exists'.mp hbad
      rw [feedOf_completeFrame_bad hcause]
      exact completion_bad_of_locked (hkept []) cause
  case header =>
    obtain ⟨cause, hcause⟩ := Option.ne_none_iff_exists'.mp hfault
    exact ⟨_, exec_frameCompletion_of_endsHeader hends hcause, completion_bad_of_locked (hkept _) cause⟩
  case silence =>
    exact ⟨_, exec_silenceInterval_of_due hdue, silence_of_locked hlocked⟩

end Sys2Proof.Machine
end

section
/-! Break commands that carry a break id alone (R103, R105): the id finds the one record that holds it (R97), and a record
freed leaves its id held by none. -/

namespace Sys2Proof.Machine

open Sys2Proof

/-! ### The record that holds a break id (R97) -/

theorem findBreak_eq_none_iff {s : State} {id : BitVec 16} :
    findBreak s id = none ↔ ∀ r b, recOf s r = some b → b.id ≠ id := by
  simp [findBreak, numbers, Option.any_eq_true]

theorem recOf_of_findBreak {s : State} {id : BitVec 16} {r : Fin 16} (h : findBreak s id = some r) :
    ∃ b, recOf s r = some b ∧ b.id = id := by
  simpa [Option.any_eq_true] using List.find?_some h

/-- No two records hold one break id. -/
theorem BreaksInv.record_unique {s : State} (hs : BreaksInv s) {r q : Fin 16} {b c : BreakRec}
    (hb : recOf s r = some b) (hc : recOf s q = some c) (hid : b.id = c.id) : r = q := by
  by_contra hne
  obtain ⟨hapart, -⟩ := hs
  exact (hapart r q b c hne hb hc).1 hid

theorem BreaksInv.findBreak_eq_some {s : State} (hs : BreaksInv s) {r : Fin 16} {b : BreakRec}
    (hb : recOf s r = some b) : findBreak s b.id = some r := by
  cases hfind : findBreak s b.id with
  | none => exact absurd rfl (findBreak_eq_none_iff.mp hfind r b hb)
  | some q =>
    obtain ⟨c, hc, hid⟩ := recOf_of_findBreak hfind
    rw [hs.record_unique hc hb hid]

/-- R105: the id of a record freed is held by no record. -/
theorem BreaksInv.findBreak_freeRecord {s : State} (hs : BreaksInv s) {r : Fin 16} {b : BreakRec}
    (hb : recOf s r = some b) : findBreak (freeRecord r s) b.id = none := by
  rw [findBreak_eq_none_iff]
  intro q c hc hid
  rw [recOf_freeRecord] at hc
  split at hc
  case isTrue => cases hc
  case isFalse hne => exact hne (hs.record_unique hc hb hid)

/-! ### The break id of a command -/

theorem field_idBytes (id : BitVec 16) : field (idBytes id) 0 2 = id.toNat := by
  simp [field, idBytes, beNat, beBytes]
  omega

theorem ofNat_field_idBytes (id : BitVec 16) : BitVec.ofNat 16 (field (idBytes id) 0 2) = id := by
  rw [field_idBytes, BitVec.ofNat_toNat, BitVec.setWidth_eq]

section withBreakId

variable {s : State} {f : Fin 16 → BreakRec → Answer} {id : BitVec 16}

theorem withBreakId_of_badArgument {args : List Byte} (h : args.length ≠ 2 ∨ args = [0, 0]) :
    withBreakId args s f = refuse .badArgument s := by
  refine if_pos (h.imp_right ?_)
  rintro rfl
  rfl

/-- The bytes of a break id other than 0 pass the argument test. -/
theorem not_badArgument_idBytes (hid : id ≠ 0) : ¬ ((idBytes id).length ≠ 2 ∨ field (idBytes id) 0 2 = 0) := by
  rintro (hlen | hzero)
  · exact hlen rfl
  · exact hid (BitVec.eq_of_toNat_eq ((field_idBytes id).symm.trans hzero))

theorem withBreakId_of_unheld (hid : id ≠ 0) (h : ∀ r b, recOf s r = some b → b.id ≠ id) :
    withBreakId (idBytes id) s f = refuse .noSuchBreak s := by
  simp only [withBreakId, if_neg (not_badArgument_idBytes hid), ofNat_field_idBytes, findBreak_eq_none_iff.mpr h]

theorem withBreakId_of_held (hs : BreaksInv s) {r : Fin 16} {b : BreakRec} (hid : b.id ≠ 0)
    (hb : recOf s r = some b) : withBreakId (idBytes b.id) s f = f r b := by
  simp only [withBreakId, if_neg (not_badArgument_idBytes hid), ofNat_field_idBytes, hs.findBreak_eq_some hb, hb]

end withBreakId

/-! ### Commands of the director -/

theorem directed_of_director {p : Port} {s : State} (h : s.direction.director = some p) (a : Answer) :
    directed p s a = a := if_pos h

/-- A command refused leaves the state but for the response. -/
theorem respond_refuse (p : Port) (code : Byte) (r : Result) (s : State) :
    respond p code (refuse r s) = { s with ports := answered p code r [] s.ports } := rfl

theorem respond_done (p : Port) (code : Byte) (s : State) :
    respond p code (done s) = { s with ports := answered p code .done [] s.ports } := rfl

end Sys2Proof.Machine
end

section
/-! Retire Break (R105). -/

namespace Sys2Proof.Machine

open Sys2Proof

/-- R105: what Retire Break answers of the record that holds its id. -/
def retireRecord (s : State) (r : Fin 16) (b : BreakRec) : Answer :=
  if b.state.live then refuse .wrongState s else done (freeRecord r s)

theorem exec_retireBreak_of_director {s : State} {p : Port} (h : s.direction.director = some p) (args : List Byte) :
    exec (.retireBreak p args) s = .next (respond p 0x12 (withBreakId args s (retireRecord s))) :=
  congrArg (fun a => taken p 0x12 a) (directed_of_director h _)

/-- A record neither Done nor Abandoned is live. -/
theorem BreakState.live_of_not_terminal {x : BreakState} (hdone : x ≠ .done) (habandoned : x ≠ .abandoned) :
    x.live = true := by
  cases x with
  | done => exact absurd rfl hdone
  | abandoned => exact absurd rfl habandoned
  | _ => rfl

theorem BreakState.live_of_terminal {x : BreakState} (h : x = .done ∨ x = .abandoned) : x.live = false := by
  rcases h with rfl | rfl <;> rfl

/-- Settles O28: the command answers by its id as the break commands do, and a terminal record is freed. -/
theorem retireBreakFreesRecord : Obligations.RetireBreakFreesRecord := by
  intro s p args hdirector
  rw [exec_retireBreak_of_director hdirector]
  refine ⟨fun hbad => ?badArgument, ?_⟩
  case badArgument => rw [withBreakId_of_badArgument hbad, respond_refuse]
  rintro id hid rfl
  refine ⟨fun hunheld => ?noSuchBreak, ?_⟩
  case noSuchBreak => rw [withBreakId_of_unheld hid hunheld, respond_refuse]
  rintro r b hs hb rfl
  rw [withBreakId_of_held hs hid hb, retireRecord]
  refine ⟨fun hdone habandoned => ?wrongState, fun hterminal => ?freed⟩
  case wrongState => rw [if_pos (BreakState.live_of_not_terminal hdone habandoned), respond_refuse]
  case freed =>
    rw [if_neg (by simp [BreakState.live_of_terminal hterminal]), respond_done]
    exact ⟨_, rfl, rfl, (recOf_freeRecord r r s).trans (if_pos rfl),
      fun q hq => (recOf_freeRecord r q s).trans (if_neg hq), rfl, rfl, hs.findBreak_freeRecord hb⟩

end Sys2Proof.Machine
end

section
/-! Label windows (R136): which labels hit a window, and the null label, which none does. -/

namespace Sys2Proof.Machine

open Sys2Proof

/-! ### Labels that agree under a mask -/

theorem and_mask_eq_iff {n : Nat} (x y m : BitVec n) :
    x &&& m = y &&& m ↔ ∀ i, i < n → m.getLsbD i = true → x.getLsbD i = y.getLsbD i := by
  constructor
  · intro h i _ hm
    have hbit := congrArg (·.getLsbD i) h
    simpa [hm] using hbit
  · intro h
    refine BitVec.eq_of_getLsbD_eq fun i hi => ?_
    rw [BitVec.getLsbD_and, BitVec.getLsbD_and]
    cases hm : m.getLsbD i with
    | false => rw [Bool.and_false, Bool.and_false]
    | true => rw [h i hi hm]

/-- The mask FF0 clears the lower four bits. -/
theorem toNat_and_upper_mask (x : BitVec 12) : (x &&& 0xFF0).toNat = x.toNat / 16 * 16 := by
  have hmask : x &&& (0xFF0 : BitVec 12) = x >>> 4 <<< 4 := (BitVec.shiftLeft_ushiftRight (x := x) (n := 4)).symm
  have hx := x.isLt
  rw [hmask, BitVec.toNat_shiftLeft, BitVec.toNat_ushiftRight, Nat.shiftLeft_eq, Nat.shiftRight_eq_div_pow]
  omega

theorem and_upper_mask_eq_iff (x y : BitVec 12) :
    x &&& 0xFF0 = y &&& 0xFF0 ↔ x.toNat / 16 = y.toNat / 16 := by
  rw [← BitVec.toNat_inj, toNat_and_upper_mask, toNat_and_upper_mask]
  omega

/-! ### The labels that hit a window -/

theorem labelHits_iff (w : Window) (l : BitVec 12) :
    labelHits w l = true ↔ w.enable = true ∧ l ≠ 0xFFF ∧ l &&& w.mask = w.base &&& w.mask := by
  simp [labelHits, and_assoc]

theorem labelHits_iff_of_enable {w : Window} {l : BitVec 12} (he : w.enable = true) (hl : l ≠ 0xFFF) :
    labelHits w l = true ↔ l &&& w.mask = w.base &&& w.mask := by
  rw [labelHits_iff, and_iff_right he, and_iff_right hl]

theorem labelHits_of_disabled {w : Window} (l : BitVec 12) (he : w.enable = false) : labelHits w l = false := by
  simp [labelHits, he]

theorem labelHits_null (w : Window) : labelHits w 0xFFF = false := by
  simp [labelHits]

/-! ### The null label at the Splice Unit -/

theorem hitsKind_null (s : State) (k : WindowKind) : hitsKind s k 0xFFF = false := by
  rw [hitsKind, List.any_eq_false]
  intro w _
  rw [labelHits_null, Bool.and_false]
  exact Bool.false_ne_true

theorem classify_null (s : State) : classify s 0xFFF = .pass := if_pos rfl

theorem splicePacket_of_null {p : ServicePacket} (hp : p.label = 0xFFF) (f : Forming) :
    splicePacket p f = (p, f) := by
  rw [splicePacket, hp, classify_null]

theorem restampPacket_of_not_hit {p : ServicePacket} {s : State} (h : hitsKind s .splice p.label = false) :
    restampPacket p s = (p, s) := by
  rw [restampPacket, h]
  rfl

/-- Settles O38, by the bits that agree under a mask; the null label hits no window of any kind, so its packet is passed
and not restamped. -/
theorem labelHitsWindow : Obligations.LabelHitsWindow := by
  refine ⟨?bits, ?masks, fun _ l => labelHits_of_disabled l, labelHits_null, ?null⟩
  case bits =>
    intro w l
    rw [labelHits_iff, and_mask_eq_iff]
  case masks =>
    intro w l he hl
    have hits := labelHits_iff_of_enable he hl
    refine ⟨fun hm => ?one, fun hm => ?sixteen, fun hm => ?every⟩
    case one =>
      have hones : (0xFFF : BitVec 12) = BitVec.allOnes 12 := rfl
      rw [hits, hm, hones, BitVec.and_allOnes, BitVec.and_allOnes]
    case sixteen => rw [hits, hm, and_upper_mask_eq_iff]
    case every => rw [hits, hm]; exact BitVec.and_zero.trans BitVec.and_zero.symm
  case null =>
    intro s p f hp
    have hmiss : hitsKind s .splice p.label = false := by rw [hp]; exact hitsKind_null s .splice
    exact ⟨splicePacket_of_null hp f, restampPacket_of_not_hit hmiss⟩

end Sys2Proof.Machine
end

section
/-! Boundaries at which no Apply takes effect (R65, R171). Every part of a boundary but a pending Apply keeps the settings
and the marks of source 14, and so does the whole boundary when no Apply is pending. -/

namespace Sys2Proof.Machine

open Sys2Proof

/-- R171: no Apply takes effect between two states: the settings stand, and so do the marks of source 14. -/
structure NoApply (s t : State) : Prop where
  settings : t.settings = s.settings
  marks    : ∀ port, (portOf t.alerts.ports port).marks.get srcApply = (portOf s.alerts.ports port).marks.get srcApply

namespace NoApply

theorem refl (s : State) : NoApply s s := ⟨rfl, fun _ => rfl⟩

theorem trans {s t u : State} (h : NoApply s t) (g : NoApply t u) : NoApply s u :=
  ⟨g.settings.trans h.settings, fun port => (g.marks port).trans (h.marks port)⟩

theorem of_alerts {s t : State} (hsettings : t.settings = s.settings) (halerts : t.alerts = s.alerts) : NoApply s t :=
  ⟨hsettings, fun port => by rw [halerts]⟩

/-- A change that leaves the settings and the alerts, taken before others. -/
theorem after_silent {s t u : State} (h : NoApply t u) (hsettings : t.settings = s.settings)
    (halerts : t.alerts = s.alerts) : NoApply s u := (of_alerts hsettings halerts).trans h

/-- A change that leaves the settings and the alerts, taken after others. -/
theorem then_silent {s t u : State} (h : NoApply s t) (hsettings : u.settings = t.settings)
    (halerts : u.alerts = t.alerts) : NoApply s u := h.trans (of_alerts hsettings halerts)

theorem of_raisedOnly {l : List Source} {s t : State} (hsettings : t.settings = s.settings) (hl : srcApply ∉ l)
    (h : raisedOnly l s t) : NoApply s t := by
  obtain ⟨-, hports⟩ := h
  refine ⟨hsettings, fun port => ?_⟩
  obtain ⟨-, -, hmarks⟩ := hports port
  exact (hmarks srcApply).1 hl

/-! ### Flags -/

theorem raise {src : Source} (h : srcApply ≠ src) (s : State) : NoApply s (raise src s) :=
  of_raisedOnly (raise_settings src s) (by simpa using h) (raisedOnly_raise (List.mem_singleton_self src) s)

theorem evalEvent (m : MonNo) (s : State) : NoApply s (evalEvent m s) :=
  of_raisedOnly (evalEvent_settings m s) (by decide) (raisedOnly_evalEvent m s)

theorem evalCondition (m : MonNo) (active : Bool) (s : State) : NoApply s (evalCondition m active s) :=
  of_raisedOnly (evalCondition_settings m active s) (by decide) (raisedOnly_evalCondition m active s)

theorem addCause (c : Cause) (s : State) : NoApply s (addCause c s) :=
  of_raisedOnly (addCause_settings c s) (by decide) (raisedOnly_addCause c s)

theorem removeCause (c : Cause) (s : State) : NoApply s (removeCause c s) := of_alerts rfl rfl

theorem muteAtOnce (s : State) : NoApply s (muteAtOnce s) :=
  have hraised := (raise (src := srcOutput) (by decide) s).trans (raise (src := srcMuted) (by decide) _)
  hraised.then_silent rfl (muteAtOnce_alerts s)

/-! ### Changes made in turn -/

theorem forEach {n : Nat} {f : Fin n → State → State} (hf : ∀ i t, NoApply t (f i t)) (s : State) :
    NoApply s (forEach f s) :=
  forEach_induct (NoApply s) (refl s) fun i t ht => ht.trans (hf i t)

theorem eachRecord {f : Fin 16 → BreakRec → State → State} (hf : ∀ r b t, NoApply t (f r b t)) (s : State) :
    NoApply s (eachRecord f s) := by
  refine forEach (fun r t => ?_) s
  split
  · exact refl t
  · exact hf r _ t

/-! ### The output's decision (R81, R82) -/

theorem sampleReady (ready : Bool) (s : State) : NoApply s (sampleReady ready s) := by
  cases ready with
  | true => exact removeCause .exciter s
  | false => exact (addCause .exciter _).after_silent rfl rfl

theorem enterRunning (s : State) : NoApply s (enterRunning s) :=
  (raise (src := srcOutput) (by decide) _).after_silent rfl rfl

theorem decideState (s : State) : NoApply s (decideState s) := by
  unfold Machine.decideState
  cases s.output.state with
  | idle => exact refl s
  | waiting => dsimp only; split_ifs; exacts [enterRunning s, muteAtOnce s]
  | running => dsimp only; split_ifs; exacts [refl s, muteAtOnce s]
  | muted => dsimp only; split_ifs; exacts [enterRunning s, refl s]

/-! ### The Break Table (R109, R121) -/

theorem dropRequests (r : Fin 16) (s : State) : NoApply s (dropRequests r s) := by
  obtain ⟨hkept, -, -⟩ := dropRequests_kept r s
  exact of_alerts (settings_dropRequests r s) (by rw [hkept])

theorem terminate (r : Fin 16) (final : BreakState) (cause : TermCause) (boundary : Option Seq) (s : State) :
    NoApply s (terminate r final cause boundary s) := by
  unfold Machine.terminate
  split
  · exact refl s
  · extract_lets b' s1 table s2 s3
    have h1 : NoApply s s1 := (dropRequests r _).after_silent rfl rfl
    have h2 : NoApply s s2 := h1.then_silent rfl rfl
    have h3 : NoApply s s3 := h2.trans (raise (by decide) s2)
    split_ifs
    · exact h3.trans (raise (by decide) s3)
    · exact h3

theorem endMarked (q : Seq) (stopped : Bool) (r : Fin 16) (b : BreakRec) (s : State) :
    NoApply s (endMarked q stopped r b s) := by
  unfold Machine.endMarked
  split
  · exact terminate ..
  · exact refl s

theorem endCompleted (q : Seq) (r : Fin 16) (b : BreakRec) (s : State) : NoApply s (endCompleted q r b s) := by
  unfold Machine.endCompleted
  split_ifs
  · exact terminate ..
  · exact refl s

/-- A record that changes state, with source 8. -/
theorem setRec_raise (r : Fin 16) (b : BreakRec) (s : State) :
    NoApply s (Machine.raise srcBreak (setRec r (some b) s)) :=
  (raise (by decide) _).after_silent rfl rfl

theorem startFetching (q : Seq) (r : Fin 16) (b : BreakRec) (s : State) : NoApply s (startFetching q r b s) := by
  unfold Machine.startFetching
  split_ifs
  · exact setRec_raise ..
  · exact refl s

theorem evaluateStart (q : Seq) (stopped : Bool) (r : Fin 16) (b : BreakRec) (s : State) :
    NoApply s (evaluateStart q stopped r b s) := by
  unfold Machine.evaluateStart
  split_ifs
  · exact terminate ..
  · exact setRec_raise ..
  · exact (terminate ..).trans (evalEvent mon13 _)

theorem startDue (q : Seq) (stopped : Bool) (r : Fin 16) (b : BreakRec) (s : State) :
    NoApply s (startDue q stopped r b s) := by
  unfold Machine.startDue
  split_ifs
  · exact evaluateStart ..
  · exact refl s

theorem countOnAir (q : Seq) (r : Fin 16) (b : BreakRec) (s : State) : NoApply s (countOnAir q r b s) := by
  unfold Machine.countOnAir
  split_ifs <;> exact of_alerts rfl rfl

theorem fixTermSeq (q : Seq) (r : Fin 16) (b : BreakRec) (s : State) : NoApply s (fixTermSeq q r b s) := by
  unfold Machine.fixTermSeq
  split_ifs <;> exact of_alerts rfl rfl

theorem freeRetained (q : Seq) (r : Fin 16) (b : BreakRec) (s : State) : NoApply s (freeRetained q r b s) := by
  unfold Machine.freeRetained
  split
  · split_ifs <;> exact of_alerts rfl rfl
  · exact refl s

theorem boundaryRule (q : Seq) (stopped : Bool) (s : State) : NoApply s (boundaryRule q stopped s) :=
  (eachRecord (endMarked q stopped) s)
    |>.trans (eachRecord (endCompleted q) _)
    |>.trans (eachRecord (startFetching q) _)
    |>.trans (eachRecord (startDue q stopped) _)
    |>.trans (eachRecord (countOnAir q) _)
    |>.trans (eachRecord (fixTermSeq q) _)
    |>.trans (eachRecord (freeRetained q) _)

theorem countTimers (s : State) : NoApply s (countTimers s) := of_alerts rfl rfl

theorem breaksAtBoundary (carried : Option Seq) (stopped : Bool) (s : State) :
    NoApply s (breaksAtBoundary carried stopped s) := by
  cases carried with
  | none => exact refl s
  | some q => exact (boundaryRule q stopped s).trans (countTimers _)

/-! ### The Splice Unit (R138 to R145) -/

theorem updateRec (r : Fin 16) (f : BreakRec → BreakRec) (s : State) : NoApply s (updateRec r f s) := by
  unfold Machine.updateRec
  split <;> exact of_alerts rfl rfl

theorem evalUnderrun (r : Fin 16) (s : State) : NoApply s (evalUnderrun r s) := by
  unfold Machine.evalUnderrun
  extract_lets s1
  have h1 : NoApply s s1 := evalCondition mon11 true s
  split_ifs
  · exact h1.trans (updateRec ..)
  · exact h1

theorem countUnderrun (r : Fin 16) (s : State) : NoApply s (countUnderrun r s) :=
  (updateRec ..).trans (of_alerts rfl rfl)

theorem fillSlot (w : Fin 8) (r : Fin 16) (f : Forming) : NoApply f.state (fillSlot w r f).2.state := by
  unfold Machine.fillSlot
  extract_lets s seen short
  have hs : NoApply f.state s := updateRec ..
  split
  · exact hs
  · split
    · exact hs.trans (countUnderrun r s)
    · split
      · exact hs.trans ((updateRec ..).after_silent rfl rfl)
      · split
        · exact hs.trans (updateRec ..)
        · dsimp only
          split
          · exact hs.trans (countUnderrun r s)
          · exact (hs.trans (countUnderrun r s)).trans (evalUnderrun r _)

theorem splicePacket (p : ServicePacket) (f : Forming) : NoApply f.state (splicePacket p f).2.state := by
  unfold Machine.splicePacket
  split
  · exact refl _
  · exact of_alerts rfl rfl
  · exact fillSlot ..

theorem splicePackets : ∀ (packets : List ServicePacket) (f : Forming),
    NoApply f.state (splicePackets packets f).2.state
  | [], f => refl f.state
  | p :: rest, f => (splicePacket p f).trans (splicePackets rest _)

theorem evalServed (f : Forming) : NoApply f.state (evalServed f) := by
  refine forEach (fun r t => ?_) f.state
  split_ifs
  · exact evalCondition mon11 false t
  · exact refl t

theorem restampPacket (p : ServicePacket) (s : State) : NoApply s (restampPacket p s).2 := by
  unfold Machine.restampPacket
  split_ifs <;> exact of_alerts rfl rfl

theorem restampPackets : ∀ (packets : List ServicePacket) (s : State), NoApply s (restampPackets packets s).2
  | [], s => refl s
  | p :: rest, s => (restampPacket p s).trans (restampPackets rest _)

theorem spliceFrame (running : Bool) (packets : List ServicePacket) (s : State) :
    NoApply s (spliceFrame running packets s).2 := by
  unfold Machine.spliceFrame
  extract_lets r s1
  have h1 : NoApply s s1 := (splicePackets packets ⟨s, [], []⟩).trans (evalServed r.2)
  split_ifs
  · exact h1.trans (restampPackets r.1 s1)
  · exact h1

/-! ### The interval (R83 to R90) -/

theorem takeHeld (i : Fin 64) (s : State) : NoApply s (takeHeld i s) := by
  unfold Machine.takeHeld
  split <;> exact of_alerts rfl rfl

theorem formPackets (running : Bool) (carried : Option Seq) (s : State) :
    NoApply s (formPackets running carried s).state := by
  unfold Machine.formPackets
  split
  · exact of_alerts rfl rfl
  · split
    · exact of_alerts rfl rfl
    · exact (takeHeld _ s).trans (spliceFrame running _ _)

theorem deliver (b : NetTime) (carried : Option Seq) (f : Formed) : NoApply f.state (deliver b carried f) :=
  of_alerts rfl rfl

theorem withhold (f : Formed) : NoApply f.state (withhold f) := by
  unfold Machine.withhold returnSlot
  split <;> exact of_alerts rfl rfl

theorem evalProgramme (kind : IntervalKind) (s : State) : NoApply s (evalProgramme kind s) := by
  cases kind with
  | programme => exact evalCondition mon4 false s
  | missing => exact evalCondition mon4 true s
  | gap => exact refl s

theorem formInterval (b : NetTime) (carried : Option Seq) (s : State) : NoApply s (formInterval b carried s) := by
  unfold Machine.formInterval
  split
  · exact ((formPackets true carried s).trans (deliver ..)).trans (evalProgramme ..)
  · exact ((formPackets false carried s).trans (withhold ..)).trans (evalProgramme ..)
  · exact refl s

/-! ### The store (R65) -/

theorem freePast (b : NetTime) (stopped : Bool) (i : Fin 64) (s : State) : NoApply s (freePast b stopped i s) := by
  unfold Machine.freePast
  split
  · split_ifs
    · exact of_alerts rfl rfl
    · exact (evalEvent mon5 _).after_silent rfl rfl
    · exact refl s
  · exact refl s

theorem advanceBoundary (s : State) : NoApply s (advanceBoundary s) := by
  unfold Machine.advanceBoundary
  split <;> exact of_alerts rfl rfl

/-! ### The boundary -/

theorem takeBoundary (ready : Bool) (tl : Timeline) (s : State) : NoApply s (takeBoundary ready tl s) := by
  unfold Machine.takeBoundary
  extract_lets b r stopped s1 s2 s3
  have h0 : NoApply s (setTimeline (some r.2) s) := of_alerts rfl rfl
  have h1 : NoApply s s1 := (h0.trans (sampleReady ready _)).trans (decideState _)
  have h2 : NoApply s s2 := h1.trans (breaksAtBoundary r.1 stopped s1)
  have h3 : NoApply s s3 := by
    simp only [s3]
    split_ifs
    · exact h2
    · exact h2.trans (formInterval b r.1 s2)
  exact (h3.trans (forEach (freePast b stopped) s3)).trans (advanceBoundary _)

theorem boundaryNow (ready : Bool) (s : State) : NoApply s (boundaryNow ready s) := by
  unfold Machine.boundaryNow
  split
  · split_ifs
    · exact takeBoundary ..
    · exact refl s
  · exact refl s

end NoApply

/-- R171: at a boundary no Apply takes effect when none is pending. -/
theorem boundaryApply_of_none {s : State} (h : s.settings.apply = .none) (tl : Timeline) : boundaryApply tl s = s := by
  unfold boundaryApply
  split
  · rw [h]; rfl
  · rfl

theorem NoApply.boundaryEvent {s : State} (h : s.settings.apply = .none) (ready : Bool) :
    NoApply s (boundaryEvent ready s) := by
  unfold Machine.boundaryEvent
  split
  · rw [boundaryApply_of_none h]
    split_ifs
    · exact boundaryNow ready s
    · exact refl s
  · exact refl s

/-- No Apply takes effect at a boundary taken with none pending. -/
theorem NoApply.of_boundary {s u : State} {ready : Bool} (hu : exec (.boundary ready) s = .next u)
    (h : s.settings.apply = .none) : NoApply s u := by
  change Host.Outcome.next (Machine.boundaryEvent ready s) = .next u at hu
  obtain rfl := Host.Outcome.next.inj hu
  exact NoApply.boundaryEvent h ready

end Sys2Proof.Machine
end

section
/-! Discard Staged (R172). -/

namespace Sys2Proof.Machine

open Sys2Proof

/-! ### Commands of the director that carry no arguments -/

theorem noArguments_nil (s : State) (a : Answer) : noArguments [] s a = a := if_pos rfl

theorem noArguments_of_ne_nil {args : List Byte} (h : args ≠ []) (s : State) (a : Answer) :
    noArguments args s a = refuse .badArgument s := if_neg h

/-- R172: the settings as Discard Staged leaves them. -/
def Settings.discarded (v : Settings) : Settings := ⟨v.active, v.active, .none⟩

theorem Settings.discarded_of_equal {v : Settings} (hnone : v.apply = .none) (hequal : v.staged = v.active) :
    v.discarded = v := by
  obtain ⟨active, staged, apply⟩ := v
  obtain rfl : apply = .none := hnone
  obtain rfl : staged = active := hequal
  rfl

theorem exec_discardStaged_of_director {s : State} {p : Port} (h : s.direction.director = some p) (args : List Byte) :
    exec (.discardStaged p args) s =
      .next (respond p 0x0A (noArguments args s (done (s.setSettings s.settings.discarded)))) :=
  congrArg (fun a => taken p 0x0A a) (directed_of_director h _)

theorem exec_restartSite_of_director {s : State} {p : Port} (h : s.direction.director = some p) :
    exec (.restartSite p []) s = .next (respond p 0x1C (done (siteRestart s))) :=
  congrArg (fun a => taken p 0x1C a) ((directed_of_director h _).trans (noArguments_nil s _))

/-- Settles O48: with no Apply pending, which is how the command leaves the settings, no part of a boundary touches the
settings or raises source 14. -/
theorem discardStagedCancels : Obligations.DiscardStagedCancels := by
  intro s p args hdirector
  rw [exec_discardStaged_of_director hdirector, exec_restartSite_of_director hdirector]
  refine ⟨fun hargs => ?badArgument, ?discarded, ⟨_, rfl, rfl⟩, ⟨_, rfl, rfl⟩⟩
  case badArgument => rw [noArguments_of_ne_nil hargs, respond_refuse]
  case discarded =>
    rintro rfl
    rw [noArguments_nil, respond_done]
    refine ⟨_, rfl, rfl, fun ready u hu => ?boundary, fun hnone hequal => Settings.discarded_of_equal hnone hequal⟩
    case boundary =>
      obtain ⟨hsettings, hmarks⟩ := NoApply.of_boundary hu rfl
      exact ⟨hsettings, hmarks⟩

end Sys2Proof.Machine
end

section
/-! Deliverable sources, the alert line, and the commands that change what is deliverable (R174, R176). -/

namespace Sys2Proof.Machine

open Sys2Proof

/-! ### Deliverable sources and the alert line (R174) -/

/-- The urgent sources are 11, 12, 13 and 16 (table of 10.5). -/
theorem urgent_iff (src : Source) : urgent src = true ↔ src.val ∈ [11, 12, 13, 16] := by
  revert src
  decide

theorem deliverable_iff (s : State) (p : Port) (src : Source) :
    deliverable s p src = true ↔ (portOf s.alerts.ports p).marks.get src = true ∧
      (urgent src = true ∨ ((portOf s.alerts.ports p).enables.get src = true ∧
        ((portOf s.alerts.ports p).mask = 0 ∨
          ((portOf s.alerts.ports p).mask = 1 ∧ s.alerts.priority.get src = true)))) := by
  simp [deliverable]

theorem alertLine_iff (s : State) (p : Port) : alertLine s p = true ↔ ∃ src, deliverable s p src = true := by
  simp [alertLine, numbers]

/-! ### The status byte (R11) -/

/-- A digit put behind a binary number. -/
theorem mul_two_add_digit (n : Nat) (b : Bool) : n * 2 + (if b then 1 else 0) = Nat.bit b n := by
  rw [Nat.bit_val, Nat.mul_comm]
  cases b <;> rfl

/-- R11: bit i of the status byte. -/
theorem statusByte_getLsbD (s : State) (p : Port) {i : Nat} (hi : i < 8) :
    (statusByte s p).getLsbD i = statusBit s p i := by
  simp only [statusByte, List.foldl, mul_two_add_digit, BitVec.getLsbD_ofNat, hi, decide_true, Bool.true_and]
  interval_cases i <;> simp [Nat.testBit_bit_succ]

/-- R11, R174: the ALERT bit shows the alert line. -/
theorem statusByte_alert (s : State) (p : Port) : (statusByte s p).getLsbD 3 = alertLine s p :=
  statusByte_getLsbD s p (by decide)

/-! ### The operands of the alert commands -/

/-- A source number survives its byte. -/
theorem sourceOf_ofNat (src : Source) : sourceOf (BitVec.ofNat 8 src.val) = some src := by
  revert src
  decide

theorem flagOf_ite (b : Bool) : flagOf (if b then 1 else 0) = some b := by
  cases b <;> rfl

/-! ### The alert commands (R176) -/

theorem exec_setAlertRouting_eq (p : Port) (args : List Byte) (s : State) :
    exec (.setAlertRouting p args) s = execSetAlertRouting p args s := rfl

theorem exec_setAlertPriority_eq (p : Port) (args : List Byte) (s : State) :
    exec (.setAlertPriority p args) s = execSetAlertPriority p args s := rfl

/-- R176: the alert items as Set Alert Mask leaves them. -/
theorem exec_setAlertMask {m : Byte} (h : m.toNat < 3) (p : Port) (s : State) :
    exec (.setAlertMask p [m]) s = .next (respond p 0x19
      (done (setPortAlerts p { portOf s.alerts.ports p with mask := ⟨m.toNat, h⟩ } s))) :=
  congrArg (fun a => taken p 0x19 a) (dif_pos h)

/-- R176: an enable may be set for any source, and cleared for one that is not urgent. -/
theorem exec_setAlertRouting {src : Source} {on : Bool} (h : on = true ∨ urgent src = false) (p : Port) (s : State) :
    exec (.setAlertRouting p [BitVec.ofNat 8 src.val, if on then 1 else 0]) s = .next (respond p 0x18
      (done (setPortAlerts p { portOf s.alerts.ports p with
        enables := (portOf s.alerts.ports p).enables.set src on } s))) := by
  have hallowed : ¬ (urgent src && !on) = true := by
    rcases h with rfl | h
    · simp
    · simp [h]
  simp only [exec_setAlertRouting_eq, execSetAlertRouting, sourceOf_ofNat, flagOf_ite, if_neg hallowed, taken]

theorem exec_setAlertPriority {s : State} {p : Port} (h : s.direction.director = some p) (src : Source) (one : Bool) :
    exec (.setAlertPriority p [BitVec.ofNat 8 src.val, if one then 1 else 0]) s = .next (respond p 0x1B
      (done (s.setAlerts { s.alerts with priority := s.alerts.priority.set src one }))) := by
  simp only [exec_setAlertPriority_eq, execSetAlertPriority, sourceOf_ofNat, flagOf_ite, directed_of_director h, taken]

/-- Settles O49: the deliverable test and the line by their definitions, bit 3 by the bits of the status byte, and each
command by the one table entry or level that it writes. -/
theorem deliverableSourcesDriveLine : Obligations.DeliverableSourcesDriveLine := by
  refine ⟨?deliverable, fun s p => ⟨alertLine_iff s p, statusByte_alert s p⟩, ?mask, ?routing, ?priority⟩
  case deliverable =>
    intro s p src
    rw [deliverable_iff, urgent_iff]
  case mask =>
    intro s p m hm
    rw [exec_setAlertMask (Nat.lt_succ_of_le hm), respond_done]
    refine ⟨_, rfl, rfl, rfl, ?_⟩
    simp [setPortAlerts]
  case routing =>
    intro s p src on hon
    rw [← urgent_iff, Bool.not_eq_true] at hon
    rw [exec_setAlertRouting hon, respond_done]
    refine ⟨_, rfl, rfl, rfl, ?_⟩
    simp [setPortAlerts, Tab.get_set]
  case priority =>
    intro s p src one hdirector
    rw [exec_setAlertPriority hdirector, respond_done]
    exact ⟨_, rfl, rfl, fun x => Tab.get_set s.alerts.priority src x one⟩

end Sys2Proof.Machine
end
